-- ==== Sys2Proof/Word.lean ====
section
/-! DEFINITION. The word types of the block and the plain records its events carry (spec 00_scope R5, R10; 30_encoding R60, R61, R63). -/

namespace Sys2Proof

/-- `u8` of R10: every register array, payload and response byte. -/
abbrev Byte := BitVec 8

/-- The 16-bit setup fields `wValue`, `wIndex`, `wLength` (R60) and the decode key (R62). -/
abbrev Word16 := BitVec 16

/-- `u4` of R10: bit k is the level of channel k's tachometer input, 1 = high (R72). -/
abbrev Levels := BitVec 4

/-- A `u4` read as a set of channels: bit k says whether channel k is in it (`done` of R35). -/
abbrev ChannelSet := BitVec 4

/-- A channel index 0..3 (`NFAN` = 4, R5, R11). -/
abbrev Channel := Fin 4

/-- An `Array 4 u8` of R22: four bytes in channel order. -/
structure Bank where
  c0 : Byte
  c1 : Byte
  c2 : Byte
  c3 : Byte
  deriving DecidableEq, Repr, Inhabited

/-- Bit 7 of `bmRequestType` (R61). -/
inductive Direction where
  | hostToDevice
  | deviceToHost
  deriving DecidableEq, Repr, Inhabited

/-- The fields of a setup packet other than its type and `bRequest` (R60, R61). -/
structure Header where
  dir       : Direction
  recipient : BitVec 5
  wValue    : Word16
  wIndex    : Word16
  wLength   : Word16
  deriving DecidableEq, Repr, Inhabited

/-- The eight bytes of a setup packet in offset order, the byte space `SETUP` (R45, R60). -/
structure SetupPacket where
  b0 : Byte
  b1 : Byte
  b2 : Byte
  b3 : Byte
  b4 : Byte
  b5 : Byte
  b6 : Byte
  b7 : Byte
  deriving DecidableEq, Repr, Inhabited

/-- The seven classes of R63, each with the fields its row leaves open. -/
inductive Request where
  | standard     (req : Byte) (h : Header)
  | setSpeed     (h : Header)
  | getSpeed     (h : Header)
  | getTacho     (h : Header)
  | vendorOther  (req : Byte) (h : Header)
  | classType    (req : Byte) (h : Header)
  | reservedType (req : Byte) (h : Header)
  deriving DecidableEq, Repr

/-- One encoded event: a raw setup packet (R60), or a line of the text of R76 in ASCII. -/
inductive Delivery where
  | packet (bytes : List Byte)
  | line   (text : List Byte)
  deriving DecidableEq, Repr

end Sys2Proof
end

