-- ==== Sys2Proof/Syntax.lean ====
section
/-! DEFINITION. The instructions: one constructor per row of spec/opcode_table.json (R63's seven setup classes and R75's fourteen events). -/

namespace Sys2Proof

/-- The rows of the opcode table. A class is the event `SETUP` with its packet already decoded
(DESIGN CHOICE, log entry 21); `SETUP` carries the packet as the host sent it. -/
inductive Instr where
  /-- STANDARD (R63 row 1, R126). -/
  | standard (req : Byte) (h : Header)
  /-- SET_SPEED (R63 row 2, R111). -/
  | setSpeed (h : Header)
  /-- GET_SPEED (R63 row 3, R116). -/
  | getSpeed (h : Header)
  /-- GET_TACHO (R63 row 4, R118). -/
  | getTacho (h : Header)
  /-- VENDOR_OTHER (R63 row 5, R121). -/
  | vendorOther (req : Byte) (h : Header)
  /-- CLASS (R63 row 6, R121). -/
  | classType (req : Byte) (h : Header)
  /-- RESERVED_TYPE (R63 row 7, R121). -/
  | reservedType (req : Byte) (h : Header)
  /-- RESET (R150). -/
  | reset
  /-- BOOT lv=0bXXXX (R152). -/
  | boot (lv0 : Levels)
  /-- SETUP b0..b7 (R110). -/
  | setup (pkt : SetupPacket)
  /-- DATA h0 h1 ..: any count of bytes (R112, R115). -/
  | data (bytes : List Byte)
  /-- IN (R119). -/
  | inRead
  /-- BUSRESET (R123). -/
  | busReset
  /-- GSCOPY (R117). -/
  | gsCopy
  /-- SSRESET (R113). -/
  | ssReset
  /-- SSWRITE (R114). -/
  | ssWrite
  /-- PC lv=0bXXXX (R89). -/
  | pinChange (lv : Levels)
  /-- TICKENTER (R99). -/
  | tickEnter
  /-- TICKCOPY k (R91). -/
  | tickCopy (k : Channel)
  /-- TICKCLEAR k (R92). -/
  | tickClear (k : Channel)
  /-- TICKWD (R100). -/
  | tickWd
  deriving DecidableEq, Repr, Inhabited

end Sys2Proof
end

