-- ==== Sys2Proof/Config.lean ====
section
/-! DEFINITION. What an implementation fixes (R6) and the free values of the model (R11 `choose`): constants with no body, so that a claim holds for every value of them. -/

namespace Sys2Proof

/-- `DEFAULT_DUTY` of R6: any `u8` (D1). -/
opaque Config.defaultDuty : Byte

/-- `S` of R6, the silence bound: 0 <= S <= 254 (D2, D3). -/
opaque Config.silenceBound : Fin 255

/-- The n-th byte drawn by `choose` (R11, R150): nothing constrains it (log entry 6). -/
opaque Config.freeByte : Nat → Byte

/-- The n-th level vector drawn by `choose` (R150): nothing constrains it (log entry 6). -/
opaque Config.freeLevels : Nat → Levels

/-- The event the outside world and the scheduler offer at draw n, where `inbox` lists none:
R133 lets any enabled step be next and the spec gives no rule for the choice (log entry 2). -/
opaque Config.freeEvent : Nat → Instr

end Sys2Proof
end

