-- ==== Sys2Proof/WellFormed.lean ====
section
/-! DEFINITION. Which instruction terms are events of the block: the one operand the types leave too wide is VENDOR_OTHER's bRequest (R63 row 5). -/

namespace Sys2Proof

/-- VENDOR_OTHER stands for `bRequest` 0 and 4..255 only: rows 2 to 4 of R63 take 1, 2 and 3 first.
Every other operand is as wide as its type. -/
def Instr.wellFormed : Instr → Bool
  | .standard _ _ => true
  | .setSpeed _ => true
  | .getSpeed _ => true
  | .getTacho _ => true
  | .vendorOther req _ => req != 1 && req != 2 && req != 3
  | .classType _ _ => true
  | .reservedType _ _ => true
  | .reset => true
  | .boot _ => true
  | .setup _ => true
  | .data _ => true
  | .inRead => true
  | .busReset => true
  | .gsCopy => true
  | .ssReset => true
  | .ssWrite => true
  | .pinChange _ => true
  | .tickEnter => true
  | .tickCopy _ => true
  | .tickClear _ => true
  | .tickWd => true

/-- `i` is an event the block can be given. -/
abbrev Instr.WellFormed (i : Instr) : Prop := i.wellFormed = true

end Sys2Proof
end

