-- ==== Sys2Proof/Decode.lean ====
section
/-! DEFINITION. The decoder of setup packets (R60 to R66, R79), the reader of the event text (R76), and after them the encoder. -/

namespace Sys2Proof

/-! ### Fields of a setup packet -/

/-- `type`, bits 6:5 of `bmRequestType` (R61). -/
def SetupPacket.reqType (p : SetupPacket) : BitVec 2 := p.b0.extractLsb' 5 2

/-- `dir`, bit 7 of `bmRequestType`: 1 = device to host (R61). -/
def SetupPacket.direction (p : SetupPacket) : Direction :=
  if p.b0.getLsbD 7 then .deviceToHost else .hostToDevice

/-- A 16-bit setup field from its bytes at offsets n and n+1: little-endian (R48; PRESUMED by the spec, log entry 11). -/
def fieldOf (low high : Byte) : Word16 := high ++ low

/-- The fields of R60 and R61 other than `type` and `bRequest`. -/
def SetupPacket.header (p : SetupPacket) : Header where
  dir       := p.direction
  recipient := p.b0.extractLsb' 0 5
  wValue    := fieldOf p.b2 p.b3
  wIndex    := fieldOf p.b4 p.b5
  wLength   := fieldOf p.b6 p.b7

/-- The decode key `{bRequest, bmRequestType}` (R62). -/
def SetupPacket.key (p : SetupPacket) : Word16 := (p.b1.zeroExtend 16 <<< 8) ||| p.b0.zeroExtend 16

/-- The eight bytes in offset order (R45 space `SETUP`). -/
def SetupPacket.bytes (p : SetupPacket) : List Byte := [p.b0, p.b1, p.b2, p.b3, p.b4, p.b5, p.b6, p.b7]

/-- A packet from exactly eight bytes (R60). -/
def packetOfBytes : List Byte → Option SetupPacket
  | [b0, b1, b2, b3, b4, b5, b6, b7] => some ⟨b0, b1, b2, b3, b4, b5, b6, b7⟩
  | _ => none

/-! ### The decode of R63 -/

/-- The class of a packet: the first row of R63 that matches. Total (R79). -/
def decodeRequest (p : SetupPacket) : Request :=
  if p.reqType = 0 then .standard p.b1 p.header
  else if p.reqType = 2 then
    if p.b1 = 1 then .setSpeed p.header
    else if p.b1 = 2 then .getSpeed p.header
    else if p.b1 = 3 then .getTacho p.header
    else .vendorOther p.b1 p.header
  else if p.reqType = 1 then .classType p.b1 p.header
  else .reservedType p.b1 p.header

/-- The instruction of a class. -/
def Request.toInstr : Request → Instr
  | .standard req h => .standard req h
  | .setSpeed h => .setSpeed h
  | .getSpeed h => .getSpeed h
  | .getTacho h => .getTacho h
  | .vendorOther req h => .vendorOther req h
  | .classType req h => .classType req h
  | .reservedType req h => .reservedType req h

/-- The row of R63's table that a class is. -/
def Request.row : Request → Nat
  | .standard _ _ => 1
  | .setSpeed _ => 2
  | .getSpeed _ => 3
  | .getTacho _ => 4
  | .vendorOther _ _ => 5
  | .classType _ _ => 6
  | .reservedType _ _ => 7

/-- Why a delivery is no event of the block. -/
inductive DecodeError where
  /-- A packet that is not eight bytes long (R60). -/
  | packetLength
  /-- A line with no event on it: empty, or a comment alone (R76). -/
  | emptyLine
  /-- A line whose first word is no mnemonic of R76. -/
  | unknownMnemonic
  /-- A line whose words after the mnemonic are not its argument (R76). -/
  | badArguments
  deriving DecidableEq, Repr

/-- The instruction of a raw setup packet. -/
def decodePacket (bytes : List Byte) : Except DecodeError Instr :=
  match packetOfBytes bytes with
  | some p => .ok (decodeRequest p).toInstr
  | none => .error .packetLength

/-! ### The event text of R76 -/

/-- The ASCII code of a character. -/
def ascii (c : Char) : Byte := BitVec.ofNat 8 c.toNat

/-- A word of the text. -/
def word (cs : List Char) : List Byte := cs.map ascii

def kwReset     : List Byte := word ['R', 'E', 'S', 'E', 'T']
def kwBoot      : List Byte := word ['B', 'O', 'O', 'T']
def kwSetup     : List Byte := word ['S', 'E', 'T', 'U', 'P']
def kwData      : List Byte := word ['D', 'A', 'T', 'A']
def kwIn        : List Byte := word ['I', 'N']
def kwBusReset  : List Byte := word ['B', 'U', 'S', 'R', 'E', 'S', 'E', 'T']
def kwPc        : List Byte := word ['P', 'C']
def kwTickEnter : List Byte := word ['T', 'I', 'C', 'K', 'E', 'N', 'T', 'E', 'R']
def kwTickCopy  : List Byte := word ['T', 'I', 'C', 'K', 'C', 'O', 'P', 'Y']
def kwTickClear : List Byte := word ['T', 'I', 'C', 'K', 'C', 'L', 'E', 'A', 'R']
def kwTickWd    : List Byte := word ['T', 'I', 'C', 'K', 'W', 'D']
def kwGsCopy    : List Byte := word ['G', 'S', 'C', 'O', 'P', 'Y']
def kwSsReset   : List Byte := word ['S', 'S', 'R', 'E', 'S', 'E', 'T']
def kwSsWrite   : List Byte := word ['S', 'S', 'W', 'R', 'I', 'T', 'E']
def kwLevels    : List Byte := word ['l', 'v', '=', '0', 'b']

/-- A space or a tab ends a word (DESIGN CHOICE, log entry 18). -/
def isBlank (c : Byte) : Bool := c == ascii ' ' || c == ascii '\t'

/-- `#` starts a comment (R76). -/
def isComment (c : Byte) : Bool := c == ascii '#'

/-- A finished word, if it has a letter. -/
def closeWord (acc : List Byte) : List (List Byte) := if acc.isEmpty then [] else [acc]

/-- The words of a line; `acc` is the word being read. -/
def wordsFrom (acc : List Byte) : List Byte → List (List Byte)
  | [] => closeWord acc
  | c :: cs =>
    if isComment c then closeWord acc
    else if isBlank c then closeWord acc ++ wordsFrom [] cs
    else wordsFrom (acc ++ [c]) cs

/-- A hexadecimal digit, of either case (DESIGN CHOICE, log entry 18). -/
def readHexDigit (c : Byte) : Option (BitVec 4) :=
  if 0x30 ≤ c ∧ c ≤ 0x39 then some ((c - 0x30).truncate 4)
  else if 0x41 ≤ c ∧ c ≤ 0x46 then some ((c - 0x37).truncate 4)
  else if 0x61 ≤ c ∧ c ≤ 0x66 then some ((c - 0x57).truncate 4)
  else none

/-- A byte as two hexadecimal digits (R76). -/
def readHexByte : List Byte → Option Byte
  | [high, low] =>
    match readHexDigit high, readHexDigit low with
    | some h, some l => some (h ++ l)
    | _, _ => none
  | _ => none

/-- The bytes of DATA and SETUP (R76). -/
def readHexBytes : List (List Byte) → Option (List Byte)
  | [] => some []
  | w :: ws =>
    match readHexByte w, readHexBytes ws with
    | some b, some bs => some (b :: bs)
    | _, _ => none

/-- A binary digit. -/
def readBit (c : Byte) : Option (BitVec 1) :=
  if c = ascii '0' then some 0 else if c = ascii '1' then some 1 else none

/-- `lv=0bXXXX`, bit 3 first (R76). -/
def readLevels : List Byte → Option Levels
  | [l, v, e, z, b, x3, x2, x1, x0] =>
    if [l, v, e, z, b] = kwLevels then
      match readBit x3, readBit x2, readBit x1, readBit x0 with
      | some d3, some d2, some d1, some d0 => some (d3 ++ d2 ++ d1 ++ d0)
      | _, _, _, _ => none
    else none
  | _ => none

/-- `k` of TICKCOPY and TICKCLEAR: 0..3 (R75, R76). -/
def readChannel : List Byte → Option Channel
  | [c] =>
    if c = ascii '0' then some 0
    else if c = ascii '1' then some 1
    else if c = ascii '2' then some 2
    else if c = ascii '3' then some 3
    else none
  | _ => none

/-- An event without argument. -/
def noArgument (i : Instr) : List (List Byte) → Except DecodeError Instr
  | [] => .ok i
  | _ :: _ => .error .badArguments

/-- An event with one argument. -/
def oneArgument {α : Type} (f : α → Instr) (read : List Byte → Option α) : List (List Byte) → Except DecodeError Instr
  | [w] =>
    match read w with
    | some a => .ok (f a)
    | none => .error .badArguments
  | _ => .error .badArguments

/-- SETUP's eight bytes. -/
def setupArguments (args : List (List Byte)) : Except DecodeError Instr :=
  match readHexBytes args with
  | some bs =>
    match packetOfBytes bs with
    | some p => .ok (.setup p)
    | none => .error .badArguments
  | none => .error .badArguments

/-- DATA's bytes, of any count (R115 gives a wrong count its meaning). -/
def dataArguments (args : List (List Byte)) : Except DecodeError Instr :=
  match readHexBytes args with
  | some bs => .ok (.data bs)
  | none => .error .badArguments

/-- The event of a line's words (R76). -/
def decodeWords : List (List Byte) → Except DecodeError Instr
  | [] => .error .emptyLine
  | kw :: args =>
    if kw = kwReset then noArgument .reset args
    else if kw = kwBoot then oneArgument .boot readLevels args
    else if kw = kwSetup then setupArguments args
    else if kw = kwData then dataArguments args
    else if kw = kwIn then noArgument .inRead args
    else if kw = kwBusReset then noArgument .busReset args
    else if kw = kwPc then oneArgument .pinChange readLevels args
    else if kw = kwTickEnter then noArgument .tickEnter args
    else if kw = kwTickCopy then oneArgument .tickCopy readChannel args
    else if kw = kwTickClear then oneArgument .tickClear readChannel args
    else if kw = kwTickWd then noArgument .tickWd args
    else if kw = kwGsCopy then noArgument .gsCopy args
    else if kw = kwSsReset then noArgument .ssReset args
    else if kw = kwSsWrite then noArgument .ssWrite args
    else .error .unknownMnemonic

/-- The decoder: any delivery, an event or a rejection by name. -/
def decode : Delivery → Except DecodeError Instr
  | .packet bytes => decodePacket bytes
  | .line text => decodeWords (wordsFrom [] text)

/-! ### The encoder -/

/-- Bit 7 of `bmRequestType` (R61). -/
def dirBit : Direction → BitVec 1
  | .hostToDevice => 0
  | .deviceToHost => 1

/-- The packet with the given type, `bRequest` and other fields (R60, R61, R48). -/
def packetOf (type : BitVec 2) (req : Byte) (h : Header) : SetupPacket where
  b0 := dirBit h.dir ++ type ++ h.recipient
  b1 := req
  b2 := h.wValue.extractLsb' 0 8
  b3 := h.wValue.extractLsb' 8 8
  b4 := h.wIndex.extractLsb' 0 8
  b5 := h.wIndex.extractLsb' 8 8
  b6 := h.wLength.extractLsb' 0 8
  b7 := h.wLength.extractLsb' 8 8

/-- A hexadecimal digit, lower case. -/
def hexDigit (d : BitVec 4) : Byte :=
  if d < 10 then 0x30 + d.zeroExtend 8 else 0x57 + d.zeroExtend 8

/-- A byte as two hexadecimal digits, the high one first. -/
def hexByte (b : Byte) : List Byte := [hexDigit (b.extractLsb' 4 4), hexDigit (b.extractLsb' 0 4)]

/-- A binary digit. -/
def bitDigit (b : Bool) : Byte := if b then ascii '1' else ascii '0'

/-- `lv=0bXXXX`, bit 3 first (R76). -/
def levelsWord (lv : Levels) : List Byte :=
  kwLevels ++ [bitDigit (lv.getLsbD 3), bitDigit (lv.getLsbD 2), bitDigit (lv.getLsbD 1), bitDigit (lv.getLsbD 0)]

/-- A channel index as a decimal digit. -/
def channelWord : Channel → List Byte
  | 0 => [ascii '0']
  | 1 => [ascii '1']
  | 2 => [ascii '2']
  | 3 => [ascii '3']

/-- Words with one space between two of them. -/
def joinWords : List (List Byte) → List Byte
  | [] => []
  | [w] => w
  | w :: w' :: ws => w ++ ascii ' ' :: joinWords (w' :: ws)

/-- A line of words. -/
def lineOf (ws : List (List Byte)) : Delivery := .line (joinWords ws)

/-- The encoding of an instruction: a packet for a class (R60, R63), a line for an event (R76). -/
def encode : Instr → Delivery
  | .standard req h => .packet (packetOf 0 req h).bytes
  | .setSpeed h => .packet (packetOf 2 1 h).bytes
  | .getSpeed h => .packet (packetOf 2 2 h).bytes
  | .getTacho h => .packet (packetOf 2 3 h).bytes
  | .vendorOther req h => .packet (packetOf 2 req h).bytes
  | .classType req h => .packet (packetOf 1 req h).bytes
  | .reservedType req h => .packet (packetOf 3 req h).bytes
  | .reset => lineOf [kwReset]
  | .boot lv0 => lineOf [kwBoot, levelsWord lv0]
  | .setup p => lineOf (kwSetup :: p.bytes.map hexByte)
  | .data bs => lineOf (kwData :: bs.map hexByte)
  | .inRead => lineOf [kwIn]
  | .busReset => lineOf [kwBusReset]
  | .gsCopy => lineOf [kwGsCopy]
  | .ssReset => lineOf [kwSsReset]
  | .ssWrite => lineOf [kwSsWrite]
  | .pinChange lv => lineOf [kwPc, levelsWord lv]
  | .tickEnter => lineOf [kwTickEnter]
  | .tickCopy k => lineOf [kwTickCopy, channelWord k]
  | .tickClear k => lineOf [kwTickClear, channelWord k]
  | .tickWd => lineOf [kwTickWd]

/-! ### The opcode table's words -/

/-- Byte n of a number, bit 0 its least significant bit. -/
def byteOf (w n : Nat) : Byte := BitVec.ofNat 8 (w / 256 ^ n)

/-- The setup packet whose bytes are the low `nbits` bits of `w`, the bytes above them zero: byte 0 of
the key is offset 0 (R62), so `wValue`, `wIndex` and `wLength` of a 16-bit row are 0. -/
def tableBytes (nbits w : Nat) : List Byte :=
  let v := w % 2 ^ nbits
  [byteOf v 0, byteOf v 1, byteOf v 2, byteOf v 3, byteOf v 4, byteOf v 5, byteOf v 6, byteOf v 7]

/-- What the decoder reads from a word of the opcode table. -/
def decodeTableWord (nbits w : Nat) : Option Instr :=
  if nbits = 0 ∨ 64 < nbits then none
  else
    match decode (.packet (tableBytes nbits w)) with
    | .ok i => some i
    | .error _ => none

end Sys2Proof
end

