-- ==== Sys2Proof/Machine/State.lean ====
section
/-! DEFINITION. The state record of R22 with the model's own three fields, the reasons a step can stop, and the state after reset (R42). -/

namespace Sys2Proof.Machine

/-- `boot` (R38). -/
inductive BootPhase where
  | reset
  | run
  deriving DecidableEq, Repr

/-- `src` of `IN_RESP` (R33). -/
inductive RespSource where
  | scratch
  | snap
  deriving DecidableEq, Repr

/-- `ctl`, the control-transfer protocol state (R33). `len` is 1..4 and `sent` 0..len-1 in every
reachable state (R41); the types bound them by the response's four bytes (log entry 22). -/
inductive CtlState where
  | idle
  | outWait
  | inResp (src : RespSource) (len : Fin 5) (sent : Channel)
  deriving DecidableEq, Repr

/-- `mainOp`, the callback in progress (R34). -/
inductive MainOp where
  | none
  | gsCopy (k : Channel) (len : Fin 5)
  | ssReset (b : Bank)
  | ssWrite (k : Channel) (b : Bank)
  deriving DecidableEq, Repr

/-- `tick`, the phase of the tick handler (R35). -/
inductive TickPhase where
  | idle
  | copy (done : ChannelSet)
  | clear (done : ChannelSet)
  | wd
  deriving DecidableEq, Repr

/-- The reasons of the refusal mark (R148). -/
inductive Reason where
  | dirMismatch
  | setLen
  | inNoData
  deriving DecidableEq, Repr

/-- What the host sees, appended by `emit` (R11, R74). -/
inductive TraceItem where
  /-- `AwaitOut`: a SET_SPEED setup accepted. -/
  | awaitOut
  /-- `Resp(n)`: a response of n bytes, 0 the zero-length one. -/
  | resp (n : Fin 5)
  /-- `Byte(v)`: one response byte. -/
  | byte (v : Byte)
  deriving DecidableEq, Repr

/-- "No step" (R9): the event is not enabled, and there is no next state. The block itself raises no
fault (R128); each name is one enabling rule. All are safe: the model stops where the event
could not be taken (DEDUCED, log entry 3). -/
inductive Fault where
  /-- Raised by SETUP and its classes, DATA, IN and BUSRESET when R108 does not enable them; safe. -/
  | hostEventNotEnabled
  /-- Raised by BOOT unless `boot = RESET` (R152); safe. -/
  | bootNotEnabled
  /-- Raised by GSCOPY unless `mainOp = GS_COPY` and `tick = T_IDLE` (R117); safe. -/
  | gsCopyNotEnabled
  /-- Raised by SSRESET unless `mainOp = SS_RESET` and `tick = T_IDLE` (R113); safe. -/
  | ssResetNotEnabled
  /-- Raised by SSWRITE unless `mainOp = SS_WRITE` and `tick = T_IDLE` (R114); safe. -/
  | ssWriteNotEnabled
  /-- Raised by PC when R90 does not enable it; safe. -/
  | pinChangeNotEnabled
  /-- Raised by TICKENTER when R99 does not enable it; safe. -/
  | tickEnterNotEnabled
  /-- Raised by TICKCOPY k unless `tick = T_COPY(done)` and channel k is not in `done` (R91); safe. -/
  | tickCopyNotEnabled
  /-- Raised by TICKCLEAR k unless `tick = T_CLEAR(done)` and channel k is not in `done` (R92); safe. -/
  | tickClearNotEnabled
  /-- Raised by TICKWD unless `tick = T_WD` (R100); safe. -/
  | tickWdNotEnabled
  deriving DecidableEq, Repr

/-- The model gives no meaning. The spec's own refusals are not here: they set `State.refused` (R9, R37). -/
inductive Refusal where
  /-- Raised by an arm of `exec` whose instruction has no meaning yet (none has now); safe. -/
  | notModelled (mnemonic : String)
  /-- Raised by `step` when the next delivery is no event of the block (log entry 1); safe. -/
  | undecodable (e : DecodeError)
  deriving DecidableEq, Repr

/-- The state of the block: the fifteen fields of R22, then three fields that are the model's own. -/
structure State where
  /-- Per-fan PWM compare registers (R23). -/
  duty      : Bank
  /-- PWM timer units configured, pins outputs (R24). -/
  pwmCfg    : Bool
  /-- Per-fan running rising-edge counters (R25). -/
  pcnt      : Bank
  /-- Per-fan committed counts, the snapshot latch (R26). -/
  psnap     : Bank
  /-- Last sampled tachometer input levels (R27). -/
  levels    : Levels
  /-- Pin-change interrupt enabled, pull-ups on (R28). -/
  pcie      : Bool
  /-- Periodic tick source armed (R29). -/
  tickArmed : Bool
  /-- Ticks since the last accepted host duty-cycle write (R30). -/
  silence   : Byte
  /-- GET_SPEED response buffer (R32). -/
  scratch   : Bank
  /-- Control-transfer protocol state (R33). -/
  ctl       : CtlState
  /-- Main-context callback in progress (R34). -/
  mainOp    : MainOp
  /-- Tick handler phase (R35). -/
  tick      : TickPhase
  /-- Global interrupt enable (R36). -/
  ie        : Bool
  /-- The refusal mark (R37). -/
  refused   : Option Reason
  /-- Boot phase (R38). -/
  boot      : BootPhase
  /-- Model's own: what `emit` has appended, oldest first (R11, R74; log entry 8). -/
  trace     : List TraceItem
  /-- Model's own: the events to come, next first (R133; log entry 1). -/
  inbox     : List Delivery
  /-- Model's own: how many free values have been taken (R11; log entry 2). -/
  draws     : Nat
  deriving DecidableEq, Repr

/-- Four zero bytes. -/
def zeroBank : Bank := ⟨0, 0, 0, 0⟩

/-- The machine right after reset, before the boot sequence (R42). DESIGN CHOICE: `duty`, `levels` and
`scratch`, which R42 leaves unspecified, are 0 here (log entry 5, unsafe); the event RESET draws them. -/
def State.reset : State where
  duty      := zeroBank
  pwmCfg    := false
  pcnt      := zeroBank
  psnap     := zeroBank
  levels    := 0
  pcie      := false
  tickArmed := false
  silence   := 0#8
  scratch   := zeroBank
  ctl       := .idle
  mainOp    := .none
  tick      := .idle
  ie        := false
  refused   := none
  boot      := .reset
  trace     := []
  inbox     := []
  draws     := 0

end Sys2Proof.Machine
end

