-- ==== Sys2Proof/Machine/Operands.lean ====
section
/-! DEFINITION. Operand forms: banks by channel, channel sets, level vectors, response lengths, and the byte spaces of R45. -/

namespace Sys2Proof

/-- `a[k]` (R11). -/
def Bank.get (b : Bank) : Channel → Byte
  | 0 => b.c0
  | 1 => b.c1
  | 2 => b.c2
  | 3 => b.c3

/-- `a[k] <- v` (R11). -/
def Bank.set (b : Bank) (k : Channel) (v : Byte) : Bank :=
  match k with
  | 0 => { b with c0 := v }
  | 1 => { b with c1 := v }
  | 2 => { b with c2 := v }
  | 3 => { b with c3 := v }

/-- The bank with byte `f k` in channel k. -/
def Bank.ofFn (f : Channel → Byte) : Bank := ⟨f 0, f 1, f 2, f 3⟩

/-- The bank with `v` in every channel. -/
def Bank.fill (v : Byte) : Bank := Bank.ofFn fun _ => v

/-- The payload of a SET_SPEED data stage: exactly four bytes, offset k for channel k (R47, R69). -/
def payloadOf : List Byte → Option Bank
  | [h0, h1, h2, h3] => some ⟨h0, h1, h2, h3⟩
  | _ => none

/-- `done[k]` (R35). -/
def hasChannel (done : ChannelSet) (k : Channel) : Bool := done.getLsbD k.val

/-- `done[k] <- 1` (R91, R92). -/
def addChannel (done : ChannelSet) (k : Channel) : ChannelSet := done ||| (1#4 <<< k.val)

/-- All four channels: `0b1111` of R91 and R92. -/
def allChannels : ChannelSet := 0b1111#4

/-- No channel: `0b0000`. -/
def noChannels : ChannelSet := 0b0000#4

/-- The channels that went low-to-high: `lv & (lv ^ levels)` (R89). -/
def risingEdges (lv levels : Levels) : ChannelSet := lv &&& (lv ^^^ levels)

/-- Each counter of a channel in `rise` one higher, modulo 256 (R89, R94). -/
def countEdges (rise : ChannelSet) (pcnt : Bank) : Bank :=
  Bank.ofFn fun k => if hasChannel rise k then pcnt.get k + 1#8 else pcnt.get k

/-- `len = min(4, wLength)` (R66; PRESUMED by the spec, log entry 12). -/
def responseLength (wLength : Word16) : Fin 5 :=
  if wLength = 0#16 then 0
  else if wLength = 1#16 then 1
  else if wLength = 2#16 then 2
  else if wLength = 3#16 then 3
  else 4

namespace Machine

/-- The byte spaces of R45 that are state; `SETUP` and `OUT` are the operands of SETUP and DATA. -/
inductive Space where
  | duty
  | pcnt
  | snap
  | scratch
  deriving DecidableEq, Repr

/-- `MemRead(space, off, 1)` (R11, R45): one byte, no side effect (R51). -/
def memRead (sp : Space) (off : Channel) (s : State) : Byte :=
  match sp with
  | .duty => s.duty.get off
  | .pcnt => s.pcnt.get off
  | .snap => s.psnap.get off
  | .scratch => s.scratch.get off

/-- `MemWrite(space, off, 1, v)` (R11, R45): one byte of one space. -/
def memWrite (sp : Space) (off : Channel) (v : Byte) (s : State) : State :=
  match sp with
  | .duty => { s with duty := s.duty.set off v }
  | .pcnt => { s with pcnt := s.pcnt.set off v }
  | .snap => { s with psnap := s.psnap.set off v }
  | .scratch => { s with scratch := s.scratch.set off v }

/-- The space a response is read from (R119). -/
def sourceSpace : RespSource → Space
  | .scratch => .scratch
  | .snap => .snap

end Machine

end Sys2Proof
end

