-- ==== Sys2Proof/Machine/Flags.lean ====
section
/-! DEFINITION. The flags of the block (`ie`, `pcie`, `tickArmed`; R36 names no others) and what they and the phases enable: the enabling rule of every event. -/

namespace Sys2Proof.Machine

/-- The two interrupt sources (R129). -/
inductive IrqSource where
  | pinChange
  | tick
  deriving DecidableEq, Repr

/-- Whether a source is enabled (R130). -/
def sourceEnabled (src : IrqSource) (s : State) : Bool :=
  match src with
  | .pinChange => s.pcie
  | .tick => s.tickArmed

/-- Whether a source may preempt what runs (R136): PCINT anything a step leaves, TICK not its own handler. -/
def mayNest (src : IrqSource) (s : State) : Bool :=
  match src with
  | .pinChange => true
  | .tick => s.tick = .idle

/-- Whether an interrupt can be taken: booted, `ie`, the source enabled, and the nesting rule (R90, R99, R130). -/
def canTake (src : IrqSource) (s : State) : Bool :=
  (s.boot = .run) && s.ie && sourceEnabled src s && mayNest src s

/-- R108: a host event is enabled when `boot = RUN`, `mainOp = NONE` and `tick = T_IDLE`. -/
def hostReady (s : State) : Bool :=
  (s.boot = .run) && (s.mainOp = .none) && (s.tick = .idle)

/-- R152: BOOT is enabled when `boot = RESET`. -/
def bootReady (s : State) : Bool := s.boot = .reset

/-- The channel and length a GSCOPY would take: `mainOp = GS_COPY(k, len)` and `tick = T_IDLE` (R117). -/
def gsCopyReady (s : State) : Option (Channel × Fin 5) :=
  match s.mainOp with
  | .gsCopy k len => if s.tick = .idle then some (k, len) else none
  | _ => none

/-- The payload an SSRESET would take: `mainOp = SS_RESET(b)` and `tick = T_IDLE` (R113). -/
def ssResetReady (s : State) : Option Bank :=
  match s.mainOp with
  | .ssReset b => if s.tick = .idle then some b else none
  | _ => none

/-- The channel and payload an SSWRITE would take: `mainOp = SS_WRITE(k, b)` and `tick = T_IDLE` (R114). -/
def ssWriteReady (s : State) : Option (Channel × Bank) :=
  match s.mainOp with
  | .ssWrite k b => if s.tick = .idle then some (k, b) else none
  | _ => none

/-- The set a TICKCOPY k would add to: `tick = T_COPY(done)` and `done[k] = 0` (R91). -/
def tickCopyReady (k : Channel) (s : State) : Option ChannelSet :=
  match s.tick with
  | .copy done => if hasChannel done k then none else some done
  | _ => none

/-- The set a TICKCLEAR k would add to: `tick = T_CLEAR(done)` and `done[k] = 0` (R92). -/
def tickClearReady (k : Channel) (s : State) : Option ChannelSet :=
  match s.tick with
  | .clear done => if hasChannel done k then none else some done
  | _ => none

/-- R100: TICKWD is enabled when `tick = T_WD`. -/
def tickWdReady (s : State) : Bool := s.tick = .wd

/-- Whether an event is enabled: the enabling rule of each (R133). DEDUCED: the micro-steps' own rules do
not ask for `boot = RUN`, which holds in every reachable state where they are pending (log entry 19). -/
def enabled (i : Instr) (s : State) : Bool :=
  match i with
  | .standard _ _ => hostReady s
  | .setSpeed _ => hostReady s
  | .getSpeed _ => hostReady s
  | .getTacho _ => hostReady s
  | .vendorOther _ _ => hostReady s
  | .classType _ _ => hostReady s
  | .reservedType _ _ => hostReady s
  | .reset => true
  | .boot _ => bootReady s
  | .setup _ => hostReady s
  | .data _ => hostReady s
  | .inRead => hostReady s
  | .busReset => hostReady s
  | .gsCopy => (gsCopyReady s).isSome
  | .ssReset => (ssResetReady s).isSome
  | .ssWrite => (ssWriteReady s).isSome
  | .pinChange _ => canTake .pinChange s
  | .tickEnter => canTake .tick s
  | .tickCopy k => (tickCopyReady k s).isSome
  | .tickClear k => (tickClearReady k s).isSome
  | .tickWd => tickWdReady s

end Sys2Proof.Machine
end

