-- ==== Sys2Proof/Machine/Ops.lean ====
section
/-! DEFINITION. The shared operations: a step that is enabled or not, the trace, the refusal mark, interrupt entry and return, free values. -/

namespace Sys2Proof.Machine

/-- An event with a Boolean enabling rule: the next state, or no step (R9). -/
def stepWhen (ready : Bool) (why : Fault) (t : State) : Host.Outcome State Fault Refusal :=
  if ready then .next t else .fault why

/-- An event whose enabling rule also says what it works on: the next state, or no step (R9). -/
def stepWith {α : Type} (ready : Option α) (why : Fault) (f : α → State) : Host.Outcome State Fault Refusal :=
  match ready with
  | some a => .next (f a)
  | none => .fault why

/-- `emit(x)` (R11, R74). -/
def emit (x : TraceItem) (s : State) : State := { s with trace := s.trace ++ [x] }

/-- `raise Refused(reason)` (R9, R11): sets the mark and changes no other field. DEDUCED: the machine goes
on, and a later refusal's reason replaces an earlier one's (log entry 4). -/
def raiseRefused (r : Reason) (s : State) : State := { s with refused := some r }

/-- Taking an interrupt (R134): nothing is saved and no mask changes; TICK starts its handler's copy
phase, PCINT's handler is the one micro-step that follows. -/
def enterInterrupt (src : IrqSource) (s : State) : State :=
  match src with
  | .pinChange => s
  | .tick => { s with tick := .copy noChannels }

/-- Returning from an interrupt (R135): nothing is restored; TICK's handler is over. -/
def returnFromInterrupt (src : IrqSource) (s : State) : State :=
  match src with
  | .pinChange => s
  | .tick => { s with tick := .idle }

/-- Four bytes drawn by `choose`, from draw n on (R150). -/
def drawBank (n : Nat) : Bank := Bank.ofFn fun k => Config.freeByte (n + k.val)

end Sys2Proof.Machine
end

