-- ==== Sys2Proof/Machine/Pwm.lean ====
section
/-! DEFINITION. The PWM Output Driver (spec 40_pwm, R80 to R85): operations that other units call; it has no event of its own. -/

namespace Sys2Proof.Machine

/-- `configure()` of the PWM driver (R80). -/
def configurePwm (s : State) : State := { s with pwmCfg := true }

/-- `setDutyCycle(k, v)` (R81). -/
def setDutyCycle (k : Channel) (v : Byte) (s : State) : State := memWrite .duty k v s

/-- `getDutyCycle(k)` (R82). -/
def getDutyCycle (k : Channel) (s : State) : Byte := memRead .duty k s

/-- `setDutyCycle(k, v)` for k = 0..3 (R83, R151 step 7). -/
def setAllDuty (v : Byte) (s : State) : State :=
  setDutyCycle 3 v (setDutyCycle 2 v (setDutyCycle 1 v (setDutyCycle 0 v s)))

/-- `restoreDefaultDutyCycle()` with the default `dflt` (R83). -/
def restoreDefaultDutyCycle (dflt : Byte) (s : State) : State := setAllDuty dflt s

/-- What output k carries: the compare value once the pins are outputs, nothing before (R80, R85).
The waveform's exact fraction is not modelled (R85, log entry 17). -/
def pwmOutput (k : Channel) (s : State) : Option Byte :=
  if s.pwmCfg then some (getDutyCycle k s) else none

end Sys2Proof.Machine
end

