-- ==== Sys2Proof/Machine/Tacho.lean ====
section
/-! DEFINITION. The Tachometer Sampler (spec 41_tacho, R88 to R98): PC, TICKCOPY, TICKCLEAR. -/

namespace Sys2Proof.Machine

/-- `configure()` of the tachometer (R88): `lv0` are the input levels at that moment. -/
def configureTacho (lv0 : Levels) (s : State) : State :=
  { s with pcie := true, levels := lv0, tickArmed := true }

/-- The body of the pin-change handler (R89). -/
def samplePins (lv : Levels) (s : State) : State :=
  { s with pcnt := countEdges (risingEdges lv s.levels) s.pcnt, levels := lv }

/-- `getSnapshot()`, byte k (R93). -/
def getSnapshot (k : Channel) (s : State) : Byte := memRead .snap k s

/-- One copy of the commit (R91), `done` the channels already copied. -/
def copyChannel (k : Channel) (s : State) (done : ChannelSet) : State :=
  let done' := addChannel done k
  { memWrite .snap k (memRead .pcnt k s) s with
    tick := if done' = allChannels then .clear noChannels else .copy done' }

/-- One clear of the commit (R92), `done` the channels already cleared. -/
def clearChannel (k : Channel) (s : State) (done : ChannelSet) : State :=
  let done' := addChannel done k
  { memWrite .pcnt k 0#8 s with
    tick := if done' = allChannels then .wd else .clear done' }

/-- PC lv (R89, R90): entry, handler and return of PCINT in one micro-step. -/
def execPinChange (lv : Levels) (s : State) : Host.Outcome State Fault Refusal :=
  stepWhen (canTake .pinChange s) .pinChangeNotEnabled
    (returnFromInterrupt .pinChange (samplePins lv (enterInterrupt .pinChange s)))

/-- TICKCOPY k (R91). -/
def execTickCopy (k : Channel) (s : State) : Host.Outcome State Fault Refusal :=
  stepWith (tickCopyReady k s) .tickCopyNotEnabled (copyChannel k s)

/-- TICKCLEAR k (R92). -/
def execTickClear (k : Channel) (s : State) : Host.Outcome State Fault Refusal :=
  stepWith (tickClearReady k s) .tickClearNotEnabled (clearChannel k s)

end Sys2Proof.Machine
end

