-- ==== Sys2Proof/Machine/ResetBoot.lean ====
section
/-! DEFINITION. Reset and the boot sequence (spec 70_reset_and_hazards, R150 to R156): RESET, BOOT. -/

namespace Sys2Proof.Machine

/-- The pseudocode of R150 with the drawn values `d`, `l`, `c` of `duty`, `levels`, `scratch`. -/
def resetBlock (d : Bank) (l : Levels) (c : Bank) (s : State) : State :=
  { s with
    duty := d, levels := l, scratch := c
    pcnt := zeroBank, psnap := zeroBank, silence := 0#8
    pwmCfg := false, pcie := false, tickArmed := false, ie := false
    ctl := .idle, mainOp := .none, tick := .idle, boot := .reset }

/-- RESET (R150): enabled in every state. What R150 draws are free values (log entry 6). -/
def execReset (s : State) : Host.Outcome State Fault Refusal :=
  .next { resetBlock (drawBank s.draws) (Config.freeLevels (s.draws + 8)) (drawBank (s.draws + 4)) s with
          draws := s.draws + 9 }

/-- "enable interrupts globally" (R151 step 8). -/
def enableInterrupts (s : State) : State := { s with ie := true }

/-- The poll loop has started (R151 step 9). -/
def enterPollLoop (s : State) : State := { s with boot := .run }

/-- Steps 5 to 9 of R151 in their order, with default `dflt`; steps 1 to 4 change no field (R152). -/
def bootSequence (dflt : Byte) (lv0 : Levels) (s : State) : State :=
  enterPollLoop (enableInterrupts (setAllDuty dflt (configureTacho lv0 (configurePwm s))))

/-- BOOT lv (R152). -/
def execBoot (lv0 : Levels) (s : State) : Host.Outcome State Fault Refusal :=
  stepWhen (bootReady s) .bootNotEnabled (bootSequence Config.defaultDuty lv0 s)

end Sys2Proof.Machine
end

