-- ==== Sys2Proof/Machine/Watchdog.lean ====
section
/-! DEFINITION. The periodic tick, the silence counter and the fail-safe (spec 42_watchdog, R99 to R106): TICKENTER, TICKWD. -/

namespace Sys2Proof.Machine

/-- The silence count and the fail-safe of one tick with bound `bound` and default `dflt` (R100). -/
def countSilence (bound : Nat) (dflt : Byte) (s : State) : State :=
  let n := s.silence + 1#8
  if n.toNat > bound then { restoreDefaultDutyCycle dflt s with silence := 0#8 }
  else { s with silence := n }

/-- The host-write kick (R101, R113). -/
def kickSilence (s : State) : State := { s with silence := 0#8 }

/-- TICKENTER (R99): the tick interrupt is taken. -/
def execTickEnter (s : State) : Host.Outcome State Fault Refusal :=
  stepWhen (canTake .tick s) .tickEnterNotEnabled (enterInterrupt .tick s)

/-- TICKWD (R100): the watchdog step, then the handler returns. -/
def execTickWd (s : State) : Host.Outcome State Fault Refusal :=
  stepWhen (tickWdReady s) .tickWdNotEnabled
    (returnFromInterrupt .tick (countSilence Config.silenceBound.val Config.defaultDuty s))

end Sys2Proof.Machine
end

