-- ==== Sys2Proof/Machine/Usb.lean ====
section
/-! DEFINITION. The vendor-request decoder and the control-transfer state machine (spec 43_usb_requests, R107 to R127): SETUP and its seven classes, DATA, IN, BUSRESET, SSRESET, SSWRITE, GSCOPY. -/

namespace Sys2Proof.Machine

/-! ### What a delivered packet does -/

/-- The SET_SPEED branch of R110: R65, R66, then R111. -/
def setSpeedSetup (h : Header) (s : State) : State :=
  if h.dir ≠ .hostToDevice then raiseRefused .dirMismatch s
  else if h.wLength ≠ 4#16 then raiseRefused .setLen s
  else emit .awaitOut { s with ctl := .outWait }

/-- The GET_SPEED branch of R110: R65, then R116. -/
def getSpeedSetup (h : Header) (s : State) : State :=
  if h.dir ≠ .deviceToHost then raiseRefused .dirMismatch s
  else { s with ctl := .idle, mainOp := .gsCopy 0 (responseLength h.wLength) }

/-- Designating a response of `len` bytes, none for 0 (R117, R118). -/
def designate (src : RespSource) (len : Fin 5) (s : State) : State :=
  emit (.resp len) { s with ctl := if len = 0 then .idle else .inResp src len 0 }

/-- The GET_TACHO branch of R110: R65, then R118. -/
def getTachoSetup (h : Header) (s : State) : State :=
  if h.dir ≠ .deviceToHost then raiseRefused .dirMismatch s
  else designate .snap (responseLength h.wLength) s

/-- The default setup (R121): a zero-length response. -/
def defaultSetup (s : State) : State := emit (.resp 0) { s with ctl := .idle }

/-- STANDARD (R126, R67): answered by the external stack; no effect on the block if delivered. -/
def execStandard (_req : Byte) (_h : Header) (s : State) : Host.Outcome State Fault Refusal :=
  stepWhen (hostReady s) .hostEventNotEnabled s

/-- SET_SPEED (R111). -/
def execSetSpeed (h : Header) (s : State) : Host.Outcome State Fault Refusal :=
  stepWhen (hostReady s) .hostEventNotEnabled (setSpeedSetup h s)

/-- GET_SPEED (R116). -/
def execGetSpeed (h : Header) (s : State) : Host.Outcome State Fault Refusal :=
  stepWhen (hostReady s) .hostEventNotEnabled (getSpeedSetup h s)

/-- GET_TACHO (R118). -/
def execGetTacho (h : Header) (s : State) : Host.Outcome State Fault Refusal :=
  stepWhen (hostReady s) .hostEventNotEnabled (getTachoSetup h s)

/-- VENDOR_OTHER (R121). -/
def execVendorOther (_req : Byte) (_h : Header) (s : State) : Host.Outcome State Fault Refusal :=
  stepWhen (hostReady s) .hostEventNotEnabled (defaultSetup s)

/-- CLASS (R121). -/
def execClassType (_req : Byte) (_h : Header) (s : State) : Host.Outcome State Fault Refusal :=
  stepWhen (hostReady s) .hostEventNotEnabled (defaultSetup s)

/-- RESERVED_TYPE (R121). -/
def execReservedType (_req : Byte) (_h : Header) (s : State) : Host.Outcome State Fault Refusal :=
  stepWhen (hostReady s) .hostEventNotEnabled (defaultSetup s)

/-- SETUP pkt (R110): what the class of its packet does. -/
def execSetup (pkt : SetupPacket) (s : State) : Host.Outcome State Fault Refusal :=
  match decodeRequest pkt with
  | .standard req h => execStandard req h s
  | .setSpeed h => execSetSpeed h s
  | .getSpeed h => execGetSpeed h s
  | .getTacho h => execGetTacho h s
  | .vendorOther req h => execVendorOther req h s
  | .classType req h => execClassType req h s
  | .reservedType req h => execReservedType req h s

/-! ### The data stage of SET_SPEED -/

/-- A data stage: the payload where one is awaited, a refusal for any other length of it, and
discarded where none is awaited (R112, R115). -/
def dataStage (bytes : List Byte) (s : State) : State :=
  match s.ctl with
  | .outWait =>
    match payloadOf bytes with
    | some b => { s with ctl := .idle, mainOp := .ssReset b }
    | none => raiseRefused .setLen s
  | _ => s

/-- DATA bytes (R112, R115). -/
def execData (bytes : List Byte) (s : State) : Host.Outcome State Fault Refusal :=
  stepWhen (hostReady s) .hostEventNotEnabled (dataStage bytes s)

/-- The watchdog kick, before any duty write (R113). -/
def startWrites (s : State) (b : Bank) : State := { kickSilence s with mainOp := .ssWrite 0 b }

/-- SSRESET (R113). -/
def execSsReset (s : State) : Host.Outcome State Fault Refusal :=
  stepWith (ssResetReady s) .ssResetNotEnabled (startWrites s)

/-- One duty byte of the payload (R114). -/
def writeDutyByte (s : State) (at_ : Channel × Bank) : State :=
  { setDutyCycle at_.1 (at_.2.get at_.1) s with
    mainOp := if at_.1 = 3 then .none else .ssWrite (at_.1 + 1) at_.2 }

/-- SSWRITE (R114). -/
def execSsWrite (s : State) : Host.Outcome State Fault Refusal :=
  stepWith (ssWriteReady s) .ssWriteNotEnabled (writeDutyByte s)

/-! ### The GET_SPEED copy and the delivery of a response -/

/-- One byte of the GET_SPEED copy; the last one designates the response (R117). -/
def copyDutyByte (s : State) (at_ : Channel × Fin 5) : State :=
  let s' := memWrite .scratch at_.1 (getDutyCycle at_.1 s) s
  if at_.1 < 3 then { s' with mainOp := .gsCopy (at_.1 + 1) at_.2 }
  else designate .scratch at_.2 { s' with mainOp := .none }

/-- GSCOPY (R117). -/
def execGsCopy (s : State) : Host.Outcome State Fault Refusal :=
  stepWith (gsCopyReady s) .gsCopyNotEnabled (copyDutyByte s)

/-- The host reads one response byte (R119), or asks for one that no response designated (R120). -/
def readResponse (s : State) : State :=
  match s.ctl with
  | .inResp src len sent =>
    emit (.byte (memRead (sourceSpace src) sent s))
      { s with ctl := if sent.val + 1 = len.val then .idle else .inResp src len (sent + 1) }
  | _ => raiseRefused .inNoData s

/-- IN (R119, R120). -/
def execInRead (s : State) : Host.Outcome State Fault Refusal :=
  stepWhen (hostReady s) .hostEventNotEnabled (readResponse s)

/-- BUSRESET (R123; PRESUMED by the spec, log entry 24). -/
def execBusReset (s : State) : Host.Outcome State Fault Refusal :=
  stepWhen (hostReady s) .hostEventNotEnabled { s with ctl := .idle }

end Sys2Proof.Machine
end

