-- ==== Sys2Proof/Machine/Dispatch.lean ====
section
/-! DEFINITION. One arm per instruction: a direct call of its meaning. -/

namespace Sys2Proof.Machine

def exec (i : Instr) (s : State) : Host.Outcome State Fault Refusal :=
  match i with
  | .standard req h => Sys2Proof.Machine.execStandard req h s
  | .setSpeed h => Sys2Proof.Machine.execSetSpeed h s
  | .getSpeed h => Sys2Proof.Machine.execGetSpeed h s
  | .getTacho h => Sys2Proof.Machine.execGetTacho h s
  | .vendorOther req h => Sys2Proof.Machine.execVendorOther req h s
  | .classType req h => Sys2Proof.Machine.execClassType req h s
  | .reservedType req h => Sys2Proof.Machine.execReservedType req h s
  | .reset => Sys2Proof.Machine.execReset s
  | .boot lv0 => Sys2Proof.Machine.execBoot lv0 s
  | .setup pkt => Sys2Proof.Machine.execSetup pkt s
  | .data bytes => Sys2Proof.Machine.execData bytes s
  | .inRead => Sys2Proof.Machine.execInRead s
  | .busReset => Sys2Proof.Machine.execBusReset s
  | .gsCopy => Sys2Proof.Machine.execGsCopy s
  | .ssReset => Sys2Proof.Machine.execSsReset s
  | .ssWrite => Sys2Proof.Machine.execSsWrite s
  | .pinChange lv => Sys2Proof.Machine.execPinChange lv s
  | .tickEnter => Sys2Proof.Machine.execTickEnter s
  | .tickCopy k => Sys2Proof.Machine.execTickCopy k s
  | .tickClear k => Sys2Proof.Machine.execTickClear k s
  | .tickWd => Sys2Proof.Machine.execTickWd s

end Sys2Proof.Machine
end

