-- ==== Sys2Proof/Machine/Fetch.lean ====
section
/-! DEFINITION. Where the next event comes from: the list of deliveries, or the free choice of the outside world and the scheduler (R133); and placing an event so that the next step runs it. -/

namespace Sys2Proof.Machine

/-- The event offered at a draw, where it is an event of the block and enabled (R133: the next step is any
one ENABLED step); nothing otherwise. DESIGN CHOICE, log entry 2. -/
def offeredEvent (s : State) : Option Instr :=
  let i := Config.freeEvent s.draws
  if i.wellFormed && enabled i s then some i else none

/-- The next event and the state it is taken in: the first delivery of `inbox`, decoded; where there is
none, the free choice, which uses one draw. -/
def nextEvent (s : State) : Except DecodeError (Option Instr × State) :=
  match s.inbox with
  | d :: rest =>
    match decode d with
    | .ok i => .ok (some i, { s with inbox := rest })
    | .error e => .error e
  | [] => .ok (offeredEvent s, { s with draws := s.draws + 1 })

/-- A booted block whose poll loop waits for a host event, what the delivery of a setup packet needs
(R108): BOOT taken if it has not been (with the levels held), no callback and no tick handler running. -/
def readyForHost (s : State) : State :=
  let s' := if s.boot = .reset then bootSequence Config.defaultDuty s.levels s else s
  { s' with mainOp := .none, tick := .idle }

/-- The packet placed first in the list of deliveries of a block that waits for a host event (log entry 20). -/
def placePacket (bytes : List Byte) (s : State) : State :=
  let s' := readyForHost s
  { s' with inbox := .packet bytes :: s'.inbox }

end Sys2Proof.Machine
end

