-- ==== Sys2Proof/Machine/Step.lean ====
section
/-! DEFINITION. One step of the block (R8, R133). -/

namespace Sys2Proof.Machine

/-- The next event, executed. Where the free choice offers nothing enabled, only the draw is used up
(DESIGN CHOICE, log entry 2); a delivery that is no event is refused by name (log entry 1). -/
def step (s : State) : Host.Outcome State Fault Refusal :=
  match nextEvent s with
  | .ok (some i, s') => exec i s'
  | .ok (none, s') => .next s'
  | .error e => .refused (.undecodable e)

/-- `s` with the setup packet of a table word as the event the next step fetches and runs (log entry 20). -/
def State.withFetchWord (s : State) (nbits w : Nat) : State := placePacket (tableBytes nbits w) s

end Sys2Proof.Machine
end

