-- ==== Sys2Proof/Machine/Fairness.lean ====
section
/-! DEFINITION. Infinite runs of the block and their fairness (spec 60_exceptions R144, R149, 10_state R44, decision D23): a claim about what must come in the end is about fair runs. -/

namespace Sys2Proof.Machine

/-- An infinite run (R149): event n, taken in state n, gives state n+1. Any enabled event may be next
(R133), and there is no bound on how many come between two ticks (R144). -/
def InfiniteRun (ev : Nat → Instr) (st : Nat → State) : Prop :=
  ∀ n, (ev n).WellFormed ∧ exec (ev n) (st n) = .next (st (n + 1))

/-- A run after `Boot`, which lasts "until power loss or external reset" (R149): its first state has
`boot = RUN`, and no RESET is taken (DEDUCED, log entry 16). -/
def AfterBoot (ev : Nat → Instr) (st : Nat → State) : Prop :=
  (st 0).boot = .run ∧ ∀ n, ev n ≠ .reset

/-- "`TickEnter` is taken infinitely often" (R144). -/
def TicksForever (ev : Nat → Instr) : Prop := ∀ n, ∃ m, n ≤ m ∧ ev m = .tickEnter

/-- "every started TICK handler reaches `TickWd`" (R144). -/
def TickHandlersComplete (ev : Nat → Instr) (st : Nat → State) : Prop :=
  ∀ n, (st n).tick ≠ .idle → ∃ m, n ≤ m ∧ ev m = .tickWd

/-- "every started MAIN micro-sequence (`GsCopy`, `SsReset`, `SsWrite`) completes" (R144). -/
def MainSequencesComplete (st : Nat → State) : Prop :=
  ∀ n, (st n).mainOp ≠ .none → ∃ m, n ≤ m ∧ (st m).mainOp = .none

/-- The infinite runs after `Boot` that the block has (R144). -/
def FairRun (ev : Nat → Instr) (st : Nat → State) : Prop :=
  InfiniteRun ev st ∧ AfterBoot ev st ∧
    TicksForever ev ∧ TickHandlersComplete ev st ∧ MainSequencesComplete st

end Sys2Proof.Machine
end

