-- ==== Sys2Proof/Machine/Pseudo.lean ====
section
/-! DEFINITION. The pseudo-events of R77: names for one admitted schedule of events each; other interleavings are events given one by one. -/

namespace Sys2Proof

/-- The pseudo-events of R77. -/
inductive Pseudo where
  | setSpeed (v : Bank)
  | getSpeed
  | getTacho
  | vendor (n : Byte)
  | tick
  | ticks (n : Nat)
  | edge (k : Channel)
  deriving DecidableEq, Repr

/-- R77: VENDOR n is for `n not in {1,2,3}`, which are SET_SPEED, GET_SPEED and GET_TACHO. -/
def Pseudo.wellFormed : Pseudo → Bool
  | .setSpeed _ => true
  | .getSpeed => true
  | .getTacho => true
  | .vendor n => n != 1 && n != 2 && n != 3
  | .tick => true
  | .ticks _ => true
  | .edge _ => true

/-- `p` is a pseudo-event of R77. -/
abbrev Pseudo.WellFormed (p : Pseudo) : Prop := p.wellFormed = true

/-- The eight bytes `bmRequestType bRequest 00 00 00 00 len 00` of R77's packets. -/
def plainPacket (bmRequestType bRequest len : Byte) : SetupPacket := ⟨bmRequestType, bRequest, 0, 0, 0, 0, len, 0⟩

/-- `TICK` of R77, the channels in ascending order. -/
def tickEvents : List Instr :=
  [.tickEnter, .tickCopy 0, .tickCopy 1, .tickCopy 2, .tickCopy 3,
   .tickClear 0, .tickClear 1, .tickClear 2, .tickClear 3, .tickWd]

/-- A list of events n times over. -/
def repeatEvents (evs : List Instr) : Nat → List Instr
  | 0 => []
  | n + 1 => evs ++ repeatEvents evs n

/-- R77's column of expansions; `levels` are those the block holds when it begins (EDGE alone reads them).
It is read through `Pseudo.schedule`, which admits the pseudo-events of R77 alone. -/
def Pseudo.expand (levels : Levels) : Pseudo → List Instr
  | .setSpeed v =>
    [.setup (plainPacket 0x40 1 4), .data [v.c0, v.c1, v.c2, v.c3], .ssReset, .ssWrite, .ssWrite, .ssWrite, .ssWrite]
  | .getSpeed =>
    [.setup (plainPacket 0xC0 2 4), .gsCopy, .gsCopy, .gsCopy, .gsCopy, .inRead, .inRead, .inRead, .inRead]
  | .getTacho => [.setup (plainPacket 0xC0 3 4), .inRead, .inRead, .inRead, .inRead]
  | .vendor n => [.setup (plainPacket 0xC0 n 0)]
  | .tick => tickEvents
  | .ticks n => repeatEvents tickEvents n
  | .edge k => [.pinChange (addChannel levels k), .pinChange (levels &&& ~~~(addChannel noChannels k))]

/-- The events a pseudo-event stands for; none for VENDOR 1, 2 and 3, which R77 does not have. -/
def Pseudo.schedule (levels : Levels) (p : Pseudo) : Option (List Instr) :=
  if p.wellFormed then some (p.expand levels) else none

end Sys2Proof
end

