-- ==== Sys2Proof/Safety.lean ====
section
/-! DEFINITION. What claims about runs are stated in: runs of events, reachable states, the invariants of R41 and R105, and counts over a list of events. -/

namespace Sys2Proof.Machine

/-! ### Runs -/

/-- The events one after another; the first that is not enabled ends the run (R9). -/
def runEvents : List Instr → State → Host.Outcome State Fault Refusal
  | [], s => .next s
  | i :: is, s =>
    match exec i s with
    | .next t => runEvents is t
    | .fault f => .fault f
    | .refused r => .refused r

/-- The states the block can be in: from reset, whatever the outside world gives it to do next (R8, R133). -/
inductive Reachable : State → Prop where
  | start : Reachable State.reset
  | deliver {s : State} (ds : List Delivery) : Reachable s → Reachable { s with inbox := ds }
  | step {s t : State} : Reachable s → Machine.step s = .next t → Reachable t

/-! ### The invariants -/

/-- R41 and R105, with what holds while `boot = RESET` (R42) and the range of a commit's `done` (R91, R92). -/
structure State.Inv (s : State) : Prop where
  /-- R41: `pwmCfg = pcie = tickArmed = ie = 1`. -/
  running : s.boot = .run → s.pwmCfg = true ∧ s.pcie = true ∧ s.tickArmed = true ∧ s.ie = true
  /-- R42, R156: before `Boot` nothing is configured, pending or counted. -/
  stopped : s.boot = .reset →
    s.pwmCfg = false ∧ s.pcie = false ∧ s.tickArmed = false ∧ s.ie = false ∧
    s.pcnt = zeroBank ∧ s.psnap = zeroBank ∧ s.silence = 0#8 ∧
    s.ctl = .idle ∧ s.mainOp = .none ∧ s.tick = .idle
  /-- R41: `1 <= len <= 4` and `sent < len`. -/
  response : ∀ src len sent, s.ctl = .inResp src len sent → 1 ≤ len.val ∧ sent.val < len.val
  /-- R41: a callback in progress leaves `ctl = IDLE`. -/
  callback : s.mainOp ≠ .none → s.ctl = .idle
  /-- R41, R105: `silence <= S`. -/
  silence : s.silence.toNat ≤ Config.silenceBound.val
  /-- R91: a copy phase that has copied all four channels is over. -/
  copying : ∀ done, s.tick = .copy done → done ≠ allChannels
  /-- R92: a clear phase that has cleared all four channels is over. -/
  clearing : ∀ done, s.tick = .clear done → done ≠ allChannels

/-! ### Kinds of events -/

/-- SETUP and its seven classes (R110). -/
def isSetup : Instr → Bool
  | .standard _ _ | .setSpeed _ | .getSpeed _ | .getTacho _ | .vendorOther _ _ | .classType _ _
  | .reservedType _ _ | .setup _ => true
  | .reset | .boot _ | .data _ | .inRead | .busReset | .gsCopy | .ssReset | .ssWrite | .pinChange _
  | .tickEnter | .tickCopy _ | .tickClear _ | .tickWd => false

/-- The host's events (R108). -/
def isHostEvent (i : Instr) : Bool :=
  isSetup i || match i with
    | .data _ | .inRead | .busReset => true
    | _ => false

/-- The steps R137 blocks while the tick handler runs: host events and callback micro-steps. -/
def isMainStep (i : Instr) : Bool :=
  isHostEvent i || match i with
    | .gsCopy | .ssReset | .ssWrite => true
    | _ => false

/-- The micro-steps of the two interrupt handlers (R129). -/
def isHandlerStep : Instr → Bool
  | .pinChange _ | .tickEnter | .tickCopy _ | .tickClear _ | .tickWd => true
  | _ => false

/-! ### Counts over a list of events -/

/-- How many ticks complete (R103). -/
def ticksCompleted (evs : List Instr) : Nat := evs.count .tickWd

/-- The rising edges of channel k that the pin-change handler sees in these events, from the levels held
before them (R89, R96). -/
def edgesSeen (k : Channel) : Levels → List Instr → Nat
  | _, [] => 0
  | held, .pinChange lv :: is =>
    (if lv.getLsbD k.val && !held.getLsbD k.val then 1 else 0) + edgesSeen k lv is
  | _, .boot lv0 :: is => edgesSeen k lv0 is
  | held, _ :: is => edgesSeen k held is

end Sys2Proof.Machine
end

