-- ==== Sys2Proof/Certificates/Slice0/Obligations.lean ====
section
/-! DEFINITION. The statements for the provers. -/

section

open Sys2Proof Sys2Proof.Machine

/-! ### Encoding and decoding -/

/-- Every well-formed instruction is read back from its own encoding: the packet of R60 and R61 for a class, the text
of R76 for an event. (The separators and digit case of the text are the model's, log entry 18.) That the packet's
fields lie where R60 and R61 put them is the spec's general knowledge of USB (log entry 11, PRESUMED). -/
def Obligations.DecodeEncodeRoundTrip : Prop :=
  ∀ i : Instr, i.WellFormed → decode (encode i) = .ok i

/-- R79: every 8-byte packet is one class, and no bit of it is dropped: encoding that class gives the packet back.
That the packet's fields lie where R60 and R61 put them is the spec's general knowledge of USB (log entry 11,
PRESUMED). -/
def Obligations.EveryPacketDecodesWithoutLoss : Prop :=
  ∀ p : SetupPacket,
    decode (.packet p.bytes) = .ok (decodeRequest p).toInstr ∧
    encode (decodeRequest p).toInstr = .packet p.bytes

/-- R63: the class of a packet is the first row whose mask and match fit its key. R63 says of its table that "the row
order, the masks and the bit positions of `type` are this spec's"; the positions are its general knowledge of USB
(log entry 11, PRESUMED). -/
def Obligations.DecoderFollowsClassTable : Prop :=
  ∀ p : SetupPacket, (decodeRequest p).row =
    if p.key &&& 0x0060#16 = 0x0000#16 then 1
    else if p.key &&& 0xFF60#16 = 0x0140#16 then 2
    else if p.key &&& 0xFF60#16 = 0x0240#16 then 3
    else if p.key &&& 0xFF60#16 = 0x0340#16 then 4
    else if p.key &&& 0x0060#16 = 0x0040#16 then 5
    else if p.key &&& 0x0060#16 = 0x0020#16 then 6
    else if p.key &&& 0x0060#16 = 0x0060#16 then 7
    else 0

/-- R62: where the key holds `bRequest`, `dir`, `type` and `recipient`. That the packet's fields lie where R60 and
R61 put them is the spec's general knowledge of USB (log entry 11, PRESUMED). -/
def Obligations.KeyFields : Prop :=
  ∀ p : SetupPacket,
    p.key = (p.b1.zeroExtend 16 <<< 8) ||| p.b0.zeroExtend 16 ∧
    p.key.extractLsb' 8 8 = p.b1 ∧
    (p.key.getLsbD 7 = true ↔ p.header.dir = .deviceToHost) ∧
    p.key.extractLsb' 5 2 = p.reqType ∧
    p.key.extractLsb' 0 5 = p.header.recipient

/-- R64: packets that differ only in `recipient`, `wValue` and `wIndex` decode to the same class and have the same
effect. That the decoder ignores these fields is the choice of the spec's D10, and where they lie is its general
knowledge of USB (log entry 11, PRESUMED). -/
def Obligations.IgnoredSetupFields : Prop :=
  ∀ p q : SetupPacket,
    p.reqType = q.reqType → p.b0.getLsbD 7 = q.b0.getLsbD 7 → p.b1 = q.b1 → p.b6 = q.b6 → p.b7 = q.b7 →
    (decodeRequest p).row = (decodeRequest q).row ∧
    ∀ s : State, exec (.setup p) s = exec (.setup q) s

/-- Words written out from R60, R61, R76 and the examples of R78 decode to what they stand for. That the packet's
fields lie where R60 and R61 put them is the spec's general knowledge of USB (log entry 11, PRESUMED). -/
def Obligations.SampleWordsDecode : Prop :=
  decode (.packet [0x40, 0x01, 0, 0, 0, 0, 0x04, 0]) = .ok (.setSpeed ⟨.hostToDevice, 0, 0, 0, 4⟩) ∧
  decode (.packet [0xC0, 0x02, 0, 0, 0, 0, 0x04, 0]) = .ok (.getSpeed ⟨.deviceToHost, 0, 0, 0, 4⟩) ∧
  decode (.packet [0xC0, 0x03, 0, 0, 0, 0, 0x02, 0]) = .ok (.getTacho ⟨.deviceToHost, 0, 0, 0, 2⟩) ∧
  decode (.packet [0xC0, 0x63, 0, 0, 0, 0, 0x04, 0]) = .ok (.vendorOther 99 ⟨.deviceToHost, 0, 0, 0, 4⟩) ∧
  decode (.packet [0x21, 0x01, 0, 0, 0, 0, 0x04, 0]) = .ok (.classType 1 ⟨.hostToDevice, 1, 0, 0, 4⟩) ∧
  decode (.packet [0xC0, 0x01, 0, 0, 0, 0, 0x04, 0]) = .ok (.setSpeed ⟨.deviceToHost, 0, 0, 0, 4⟩) ∧
  decode (.line (word ['P', 'C', ' ', 'l', 'v', '=', '0', 'b', '0', '1', '1', '0'])) = .ok (.pinChange 0b0110) ∧
  decode (.line (word ['D', 'A', 'T', 'A', ' ', '0', 'a', ' ', '1', '4', ' ', '1', 'e', ' ', '2', '8'])) =
    .ok (.data [10, 20, 30, 40])

/-- The decoder gives well-formed instructions only. -/
def Obligations.DecodedInstrWellFormed : Prop :=
  ∀ (d : Delivery) (i : Instr), decode d = .ok i → i.WellFormed

/-! ### The step -/

/-- A step runs the decoded event: `exec` of it, with its delivery taken off the list (log entry 1). -/
def Obligations.StepRunsDecodedEvent : Prop :=
  ∀ (s : State) (d : Delivery) (rest : List Delivery) (i : Instr),
    s.inbox = d :: rest → decode d = .ok i → step s = exec i { s with inbox := rest }

/-- What a step does otherwise (the model's own, log entries 1 and 2): a delivery that is no event is refused by
name; with no delivery, the freely chosen event runs if it is an event and enabled, and else only a draw is used. -/
def Obligations.StepWithoutDecodedEvent : Prop :=
  (∀ (s : State) (d : Delivery) (rest : List Delivery) (e : DecodeError),
    s.inbox = d :: rest → decode d = .error e → step s = .refused (.undecodable e)) ∧
  (∀ s : State, s.inbox = [] →
    step s =
      if (Config.freeEvent s.draws).WellFormed ∧ enabled (Config.freeEvent s.draws) s = true then
        exec (Config.freeEvent s.draws) { s with draws := s.draws + 1 }
      else .next { s with draws := s.draws + 1 })

/-- `exec` answers a next state exactly for the events `enabled` says are enabled, and "no step" for all others (R9,
R133); no event is refused by the model. That "no step" is a named fault is the model's (log entry 3, DEDUCED), and so
is that the micro-steps' enabling does not ask for `boot = RUN`, against R38 in states no run reaches (log entry 19,
DEDUCED). -/
def Obligations.NextExactlyWhenEnabled : Prop :=
  ∀ (i : Instr) (s : State),
    (enabled i s = true → ∃ t, exec i s = .next t) ∧
    (enabled i s = false → ∃ f, exec i s = .fault f)

/-! ### Reset and boot -/

/-- R42, column "after reset", for every field it gives a value, and R37's `refused` = `none` at reset: the state the
machine starts in. That `pcnt`, `psnap` and `silence` are 0 is the choice of the spec's D5 (log entry 10, PRESUMED). -/
def Obligations.ResetStateHoldsGivenValues : Prop :=
  State.reset.pwmCfg = false ∧ State.reset.pcnt = ⟨0, 0, 0, 0⟩ ∧ State.reset.psnap = ⟨0, 0, 0, 0⟩ ∧
  State.reset.pcie = false ∧ State.reset.tickArmed = false ∧ State.reset.silence = 0#8 ∧
  State.reset.ctl = .idle ∧ State.reset.mainOp = .none ∧ State.reset.tick = .idle ∧
  State.reset.ie = false ∧ State.reset.refused = none ∧ State.reset.boot = .reset

/-- R150: RESET is enabled in every state; it draws `duty`, `levels` and `scratch`, sets every other field of R150's
pseudocode and leaves `refused` as it was. Which draws they are and `draws + 9` are the model's (log entry 6, DESIGN
CHOICE), and so is that `inbox` and `trace` are kept (log entry 25, DESIGN CHOICE). That `pcnt`, `psnap` and `silence`
become 0 is the choice of the spec's D5 (log entry 10, PRESUMED). -/
def Obligations.ResetRule : Prop :=
  ∀ s : State, exec .reset s = .next { s with
    duty := ⟨Config.freeByte s.draws, Config.freeByte (s.draws + 1), Config.freeByte (s.draws + 2),
      Config.freeByte (s.draws + 3)⟩
    scratch := ⟨Config.freeByte (s.draws + 4), Config.freeByte (s.draws + 5), Config.freeByte (s.draws + 6),
      Config.freeByte (s.draws + 7)⟩
    levels := Config.freeLevels (s.draws + 8)
    draws := s.draws + 9
    pcnt := ⟨0, 0, 0, 0⟩, psnap := ⟨0, 0, 0, 0⟩, silence := 0#8
    pwmCfg := false, pcie := false, tickArmed := false, ie := false
    ctl := .idle, mainOp := .none, tick := .idle, boot := .reset }

/-- R152: BOOT, enabled exactly when `boot = RESET`. That an event not enabled answers this named fault is the
model's (log entry 3, DEDUCED). That the boot sequence is one step is the choice of the spec's D33 (log entry 23,
DEDUCED). -/
def Obligations.BootRule : Prop :=
  ∀ (lv0 : Levels) (s : State),
    (s.boot = .reset → exec (.boot lv0) s = .next { s with
      pwmCfg := true
      pcie := true, levels := lv0, tickArmed := true
      duty := ⟨Config.defaultDuty, Config.defaultDuty, Config.defaultDuty, Config.defaultDuty⟩
      ie := true
      boot := .run }) ∧
    (s.boot ≠ .reset → exec (.boot lv0) s = .fault .bootNotEnabled)

/-- R156 (and R38): while `boot = RESET`, in every state that meets the invariant, only BOOT and RESET can be taken. -/
def Obligations.OnlyBootAndResetBeforeBoot : Prop :=
  ∀ (i : Instr) (s t : State), s.Inv → s.boot = .reset → exec i s = .next t →
    i = .reset ∨ ∃ lv0, i = .boot lv0

/-- R130: an interrupt is taken only with `ie` and its source's flag set; the three flags are 0 at reset, set by
BOOT, and changed by no other event. That the flags are never cleared, on entry to a handler either, is the choice of
the spec's D22 (log entry 28, DEDUCED). -/
def Obligations.InterruptFlagsSetOnlyByBoot : Prop :=
  (∀ (lv : Levels) (s t : State), exec (.pinChange lv) s = .next t → s.ie = true ∧ s.pcie = true) ∧
  (∀ s t : State, exec .tickEnter s = .next t → s.ie = true ∧ s.tickArmed = true) ∧
  (State.reset.ie = false ∧ State.reset.pcie = false ∧ State.reset.tickArmed = false) ∧
  (∀ s t : State, exec .reset s = .next t → t.ie = false ∧ t.pcie = false ∧ t.tickArmed = false) ∧
  (∀ (lv0 : Levels) (s t : State), exec (.boot lv0) s = .next t →
    t.ie = true ∧ t.pcie = true ∧ t.tickArmed = true) ∧
  (∀ (i : Instr) (s t : State), i ≠ .reset → (∀ lv0, i ≠ .boot lv0) → exec i s = .next t →
    t.ie = s.ie ∧ t.pcie = s.pcie ∧ t.tickArmed = s.tickArmed)

/-! ### PWM Output Driver -/

/-- R81, R82: `setDutyCycle(k, v)` writes channel k, no other channel and no other field, and `getDutyCycle(k)` reads it back. -/
def Obligations.SetDutyCycleWritesOneChannel : Prop :=
  ∀ (k : Channel) (v : Byte) (s : State),
    (∃ d : Bank, setDutyCycle k v s = { s with duty := d } ∧ d.get k = v ∧
      ∀ j : Channel, j ≠ k → d.get j = s.duty.get j) ∧
    getDutyCycle k (setDutyCycle k v s) = v

/-- R83: the restore writes all four channels and nothing else. -/
def Obligations.RestoreWritesAllChannels : Prop :=
  ∀ (v : Byte) (s : State), restoreDefaultDutyCycle v s = { s with duty := ⟨v, v, v, v⟩ }

/-- R84: an event that changes `duty` is BOOT, an SSWRITE or a restoring TICKWD (or RESET, after which R150 leaves `duty` unspecified). -/
def Obligations.DutyWriters : Prop :=
  ∀ (i : Instr) (s t : State), exec i s = .next t → t.duty ≠ s.duty →
    i = .reset ∨ (∃ lv0, i = .boot lv0) ∨ i = .ssWrite ∨
    (i = .tickWd ∧ (s.silence + 1#8).toNat > Config.silenceBound.val)

/-- R80, R85: before `configure()` no duty cycle is on output k; after it, a function of `duty[k]` alone. -/
def Obligations.PwmOutputFollowsDuty : Prop :=
  (∀ (k : Channel) (s : State), s.pwmCfg = false → pwmOutput k s = none) ∧
  (∀ (k : Channel) (s t : State), s.pwmCfg = true → t.pwmCfg = true → s.duty.get k = t.duty.get k →
    pwmOutput k s = pwmOutput k t ∧ pwmOutput k s = some (s.duty.get k))

/-- R4, first sentence: two runs of the same events from states that differ only in pulse counts (running, committed or
already reported in the trace) stop alike or end in states that differ only there; their duty-cycle registers are equal. -/
def Obligations.OpenLoop : Prop :=
  ∀ (evs : List Instr) (s s' : State),
    s' = { s with pcnt := s'.pcnt, psnap := s'.psnap, trace := s'.trace } →
    (∀ t, runEvents evs s = .next t → ∃ t', runEvents evs s' = .next t' ∧ t'.duty = t.duty ∧
      t' = { t with pcnt := t'.pcnt, psnap := t'.psnap, trace := t'.trace }) ∧
    (∀ f, runEvents evs s = .fault f → runEvents evs s' = .fault f)

/-! ### Tachometer Sampler -/

/-- R89, R90: PC, enabled exactly when `boot = RUN`, `ie = 1` and `pcie = 1`. That an event not enabled answers this
named fault is the model's (log entry 3, DEDUCED). That a count wraps modulo 256 is the choice of the spec's D4 (log
entry 9, PRESUMED). That it needs no pending request is the choice of the spec's D24 (log entry 14, PRESUMED). -/
def Obligations.PinChangeRule : Prop :=
  ∀ (lv : Levels) (s : State),
    (s.boot = .run → s.ie = true → s.pcie = true →
      ∃ pc : Bank, exec (.pinChange lv) s = .next { s with pcnt := pc, levels := lv } ∧
        ∀ k : Channel, pc.get k =
          if (lv &&& (lv ^^^ s.levels)).getLsbD k.val then s.pcnt.get k + 1#8 else s.pcnt.get k) ∧
    (¬ (s.boot = .run ∧ s.ie = true ∧ s.pcie = true) →
      exec (.pinChange lv) s = .fault .pinChangeNotEnabled)

/-- R91: TICKCOPY k, enabled exactly when `tick = T_COPY(done)` and `done[k] = 0`. That an event not enabled answers
this named fault is the model's (log entry 3, DEDUCED); that the micro-step's enabling does not ask for `boot = RUN`
is the model's reading (log entry 19, DEDUCED). That the channels come in any order is the choice of the spec's D18
(log entry 15, DEDUCED). -/
def Obligations.TickCopyRule : Prop :=
  ∀ (k : Channel) (s : State),
    (∀ done : ChannelSet, s.tick = .copy done → done.getLsbD k.val = false →
      ∃ (ps : Bank) (done' : ChannelSet),
        exec (.tickCopy k) s = .next { s with
          psnap := ps, tick := if done' = 0b1111#4 then .clear 0b0000#4 else .copy done' } ∧
        ps.get k = s.pcnt.get k ∧ (∀ j : Channel, j ≠ k → ps.get j = s.psnap.get j) ∧
        (∀ j : Channel, done'.getLsbD j.val = (done.getLsbD j.val || decide (j = k)))) ∧
    ((¬ ∃ done : ChannelSet, s.tick = .copy done ∧ done.getLsbD k.val = false) →
      exec (.tickCopy k) s = .fault .tickCopyNotEnabled)

/-- R92: TICKCLEAR k, enabled exactly when `tick = T_CLEAR(done)` and `done[k] = 0`. That an event not enabled
answers this named fault is the model's (log entry 3, DEDUCED); that the micro-step's enabling does not ask for `boot
= RUN` is the model's reading (log entry 19, DEDUCED). That the channels come in any order is the choice of the
spec's D18 (log entry 15, DEDUCED). -/
def Obligations.TickClearRule : Prop :=
  ∀ (k : Channel) (s : State),
    (∀ done : ChannelSet, s.tick = .clear done → done.getLsbD k.val = false →
      ∃ (pc : Bank) (done' : ChannelSet),
        exec (.tickClear k) s = .next { s with
          pcnt := pc, tick := if done' = 0b1111#4 then .wd else .clear done' } ∧
        pc.get k = 0#8 ∧ (∀ j : Channel, j ≠ k → pc.get j = s.pcnt.get j) ∧
        (∀ j : Channel, done'.getLsbD j.val = (done.getLsbD j.val || decide (j = k)))) ∧
    ((¬ ∃ done : ChannelSet, s.tick = .clear done ∧ done.getLsbD k.val = false) →
      exec (.tickClear k) s = .fault .tickClearNotEnabled)

/-- R97: but for RESET, `pcnt[k]` is written only by PC and TICKCLEAR k, `psnap[k]` only by TICKCOPY k, `levels` only by
BOOT and PC; and a MAIN step neither writes nor reads `pcnt` and `levels`, nor writes `psnap`. -/
def Obligations.TachoSingleWriters : Prop :=
  (∀ (i : Instr) (s t : State), i ≠ .reset → exec i s = .next t →
    (∀ k : Channel, (∀ lv, i ≠ .pinChange lv) → i ≠ .tickClear k → t.pcnt.get k = s.pcnt.get k) ∧
    (∀ k : Channel, i ≠ .tickCopy k → t.psnap.get k = s.psnap.get k) ∧
    ((∀ lv, i ≠ .boot lv) → (∀ lv, i ≠ .pinChange lv) → t.levels = s.levels)) ∧
  (∀ (i : Instr) (s t : State) (pc : Bank) (lv : Levels), isMainStep i = true → exec i s = .next t →
    t.pcnt = s.pcnt ∧ t.levels = s.levels ∧ t.psnap = s.psnap ∧
    exec i { s with pcnt := pc, levels := lv } = .next { t with pcnt := pc, levels := lv })

/-- R94, R96: what TICKCOPY k commits is the count at the window's start plus, modulo 256, the rising edges of channel
k that PC has seen since, whatever else ran in between; until that copy `psnap[k]` keeps its value. That a count wraps
modulo 256 is the choice of the spec's D4 (log entry 9, PRESUMED). -/
def Obligations.WindowCommitsEdgesSeen : Prop :=
  ∀ (k : Channel) (evs : List Instr) (s u t : State),
    Instr.reset ∉ evs → Instr.tickCopy k ∉ evs → Instr.tickClear k ∉ evs →
    runEvents evs s = .next u → exec (.tickCopy k) u = .next t →
    t.psnap.get k = s.pcnt.get k + BitVec.ofNat 8 (edgesSeen k s.levels evs) ∧
    u.psnap.get k = s.psnap.get k

/-- R95, R158: whatever is taken between TICKCOPY k and TICKCLEAR k of a commit, `psnap[k]` is what the copy found
and `pcnt[k]` is 0 after the clear: an edge counted in between is in no window. That a pin change can come between
the two is the choice of the spec's D18 (log entry 15, DEDUCED). -/
def Obligations.EdgeBetweenCopyAndClearIsLost : Prop :=
  ∀ (k : Channel) (evs : List Instr) (s s₁ u t : State),
    Instr.reset ∉ evs → Instr.tickClear k ∉ evs →
    exec (.tickCopy k) s = .next s₁ → runEvents evs s₁ = .next u → exec (.tickClear k) u = .next t →
    t.psnap.get k = s.pcnt.get k ∧ t.pcnt.get k = 0#8

/-! ### Periodic tick, silence counter and fail-safe -/

/-- R99: TICKENTER, enabled exactly when `boot = RUN`, `ie = 1`, `tickArmed = 1` and `tick = T_IDLE`. That an event
not enabled answers this named fault is the model's (log entry 3, DEDUCED). That it needs no pending request is the
choice of the spec's D24 (log entry 14, PRESUMED). -/
def Obligations.TickEnterRule : Prop :=
  ∀ s : State,
    (s.boot = .run → s.ie = true → s.tickArmed = true → s.tick = .idle →
      exec .tickEnter s = .next { s with tick := .copy 0b0000#4 }) ∧
    (¬ (s.boot = .run ∧ s.ie = true ∧ s.tickArmed = true ∧ s.tick = .idle) →
      exec .tickEnter s = .fault .tickEnterNotEnabled)

/-- R100: TICKWD, enabled exactly when `tick = T_WD`. That an event not enabled answers this named fault is the
model's (log entry 3, DEDUCED); that the micro-step's enabling does not ask for `boot = RUN` is the model's reading
(log entry 19, DEDUCED). That a restore is one step with its TICKWD is the choice of the spec's D26 (log entry 23,
DEDUCED). -/
def Obligations.TickWdRule : Prop :=
  ∀ s : State,
    (s.tick = .wd → (s.silence + 1#8).toNat > Config.silenceBound.val →
      exec .tickWd s = .next { s with
        duty := ⟨Config.defaultDuty, Config.defaultDuty, Config.defaultDuty, Config.defaultDuty⟩
        silence := 0#8, tick := .idle }) ∧
    (s.tick = .wd → ¬ (s.silence + 1#8).toNat > Config.silenceBound.val →
      exec .tickWd s = .next { s with silence := s.silence + 1#8, tick := .idle }) ∧
    (s.tick ≠ .wd → exec .tickWd s = .fault .tickWdNotEnabled)

/-- R102 with R100, R113 and R150: only TICKWD, SSRESET and RESET change `silence`. -/
def Obligations.SilenceWriters : Prop :=
  ∀ (i : Instr) (s t : State), exec i s = .next t → t.silence ≠ s.silence →
    i = .tickWd ∨ i = .ssReset ∨ i = .reset

/-- R103: over any events with no SSRESET (and no RESET) that start from `silence = 0`, `silence` counts the completed
ticks while they are at most S and no tick restores (`duty` changes only by SSWRITE or BOOT); the tick after S
completed ones restores all four channels and clears `silence`. -/
def Obligations.SilenceProperty : Prop :=
  ∀ (evs : List Instr) (s t : State),
    s.silence = 0#8 → Instr.ssReset ∉ evs → Instr.reset ∉ evs → runEvents evs s = .next t →
    (ticksCompleted evs ≤ Config.silenceBound.val →
      t.silence.toNat = ticksCompleted evs ∧
      (Instr.ssWrite ∉ evs → (∀ lv0, Instr.boot lv0 ∉ evs) → t.duty = s.duty)) ∧
    (ticksCompleted evs = Config.silenceBound.val → ∀ u, exec .tickWd t = .next u →
      u.duty = ⟨Config.defaultDuty, Config.defaultDuty, Config.defaultDuty, Config.defaultDuty⟩ ∧
      u.silence = 0#8)

/-! ### Invariants -/

/-- The state after reset meets the invariant (R41, R42, R105). That `silence` is 0 there is the choice of the spec's
D5 (log entry 10, PRESUMED). -/
def Obligations.ResetMeetsInvariants : Prop := State.reset.Inv

/-- Every step from a state that meets the invariant gives one that meets it. -/
def Obligations.StepKeepsInvariants : Prop :=
  ∀ s t : State, s.Inv → step s = .next t → t.Inv

/-- R41, in every reachable state with `boot = RUN`. That `silence` starts at 0, on which its bound rests, is the
choice of the spec's D5 (log entry 10, PRESUMED). -/
def Obligations.ReachableRunningStates : Prop :=
  ∀ s : State, Reachable s → s.boot = .run →
    (s.pwmCfg = true ∧ s.pcie = true ∧ s.tickArmed = true ∧ s.ie = true) ∧
    (∀ src len sent, s.ctl = .inResp src len sent → 1 ≤ len.val ∧ len.val ≤ 4 ∧ sent.val < len.val) ∧
    (s.mainOp ≠ .none → s.ctl = .idle) ∧
    s.silence.toNat ≤ Config.silenceBound.val

/-- R105: `silence <= S` in every reachable state, and its increment never wraps. That `silence` starts at 0 is the
choice of the spec's D5 (log entry 10, PRESUMED), and that it has 8 bits with S at most 254 is that of its D3 (log
entry 7, DEDUCED). -/
def Obligations.SilenceNeverExceedsBound : Prop :=
  ∀ s : State, Reachable s →
    s.silence.toNat ≤ Config.silenceBound.val ∧ (s.silence + 1#8).toNat = s.silence.toNat + 1

/-! ### USB vendor requests -/

/-- R111 with R65, R66 and R110: SET_SPEED, where R108 enables it. That a refusal replaces the reason of an earlier
one is the model's (log entry 4, DEDUCED). That a transfer in progress is abandoned is the choice of the spec's D14
(log entry 13, PRESUMED). -/
def Obligations.SetSpeedSetupRule : Prop :=
  ∀ (h : Header) (s : State), s.boot = .run → s.mainOp = .none → s.tick = .idle →
    (h.dir = .hostToDevice → h.wLength = 4#16 →
      exec (.setSpeed h) s = .next { s with ctl := .outWait, trace := s.trace ++ [.awaitOut] }) ∧
    (h.dir = .deviceToHost → exec (.setSpeed h) s = .next { s with refused := some .dirMismatch }) ∧
    (h.dir = .hostToDevice → h.wLength ≠ 4#16 → exec (.setSpeed h) s = .next { s with refused := some .setLen })

/-- R116 with R65, R66 and R110: GET_SPEED, where R108 enables it. That a refusal replaces the reason of an earlier
one is the model's (log entry 4, DEDUCED). That the host receives min(4, wLength) bytes is the choice of the spec's
D12 (log entry 12, PRESUMED). That a transfer in progress is abandoned is the choice of the spec's D14 (log entry 13,
PRESUMED). -/
def Obligations.GetSpeedSetupRule : Prop :=
  ∀ (h : Header) (s : State), s.boot = .run → s.mainOp = .none → s.tick = .idle →
    (h.dir = .deviceToHost → ∃ len : Fin 5, len.val = min 4 h.wLength.toNat ∧
      exec (.getSpeed h) s = .next { s with ctl := .idle, mainOp := .gsCopy 0 len }) ∧
    (h.dir = .hostToDevice → exec (.getSpeed h) s = .next { s with refused := some .dirMismatch })

/-- R118 with R65, R66 and R110: GET_TACHO, where R108 enables it. That a refusal replaces the reason of an earlier
one is the model's (log entry 4, DEDUCED). That the host receives min(4, wLength) bytes is the choice of the spec's
D12 (log entry 12, PRESUMED). That a transfer in progress is abandoned is the choice of the spec's D14 (log entry 13,
PRESUMED). -/
def Obligations.GetTachoSetupRule : Prop :=
  ∀ (h : Header) (s : State), s.boot = .run → s.mainOp = .none → s.tick = .idle →
    (h.dir = .deviceToHost → ∃ len : Fin 5, len.val = min 4 h.wLength.toNat ∧
      exec (.getTacho h) s = .next { s with
        ctl := if len.val > 0 then .inResp .snap len 0 else .idle, trace := s.trace ++ [.resp len] }) ∧
    (h.dir = .hostToDevice → exec (.getTacho h) s = .next { s with refused := some .dirMismatch })

/-- R121, R122: VENDOR_OTHER, CLASS and RESERVED_TYPE, of any direction and length, where R108 enables them: only
`ctl` and the trace are written. That a transfer in progress is abandoned is the choice of the spec's D14 (log entry
13, PRESUMED). -/
def Obligations.DefaultRequestRule : Prop :=
  ∀ (req : Byte) (h : Header) (s : State), s.boot = .run → s.mainOp = .none → s.tick = .idle →
    exec (.vendorOther req h) s = .next { s with ctl := .idle, trace := s.trace ++ [.resp 0] } ∧
    exec (.classType req h) s = .next { s with ctl := .idle, trace := s.trace ++ [.resp 0] } ∧
    exec (.reservedType req h) s = .next { s with ctl := .idle, trace := s.trace ++ [.resp 0] }

/-- R126: a delivered standard request, where R108 enables it, changes no field and emits nothing. The source has such
a request answered by the external stack; that a delivered one has no effect is the choice of the spec's D11 (log
entry 24, PRESUMED). -/
def Obligations.StandardRequestRule : Prop :=
  ∀ (req : Byte) (h : Header) (s : State), s.boot = .run → s.mainOp = .none → s.tick = .idle →
    exec (.standard req h) s = .next s

/-- A delivered packet does what the instruction of its class does. That a class is an instruction of its own beside
the SETUP of its packet is the model's (log entry 21, DESIGN CHOICE). -/
def Obligations.SetupRunsItsClass : Prop :=
  ∀ (p : SetupPacket) (s : State), exec (.setup p) s = exec (decodeRequest p).toInstr s

/-- R110 with R111, R116, R118, R121 and R126: SETUP, by the bytes of its packet, where R108 enables it. That a
refusal replaces the reason of an earlier one is the model's (log entry 4, DEDUCED). The places of the packet's fields
(log entry 11), the min(4, wLength) bytes (log entry 12), the abandoned transfer (log entry 13) and a standard request
without effect (log entry 24) are the spec's choices D28, D12, D14 and D11 and its general knowledge of USB, all
PRESUMED. -/
def Obligations.SetupRule : Prop :=
  ∀ (p : SetupPacket) (s : State), s.boot = .run → s.mainOp = .none → s.tick = .idle →
    (p.b0.extractLsb' 5 2 = 0#2 → exec (.setup p) s = .next s) ∧
    (p.b0.extractLsb' 5 2 = 2#2 → p.b1 = 1#8 →
      (p.b0.getLsbD 7 = true → exec (.setup p) s = .next { s with refused := some .dirMismatch }) ∧
      (p.b0.getLsbD 7 = false → p.b7 ++ p.b6 ≠ 4#16 →
        exec (.setup p) s = .next { s with refused := some .setLen }) ∧
      (p.b0.getLsbD 7 = false → p.b7 ++ p.b6 = 4#16 →
        exec (.setup p) s = .next { s with ctl := .outWait, trace := s.trace ++ [.awaitOut] })) ∧
    (p.b0.extractLsb' 5 2 = 2#2 → (p.b1 = 2#8 ∨ p.b1 = 3#8) → p.b0.getLsbD 7 = false →
      exec (.setup p) s = .next { s with refused := some .dirMismatch }) ∧
    (p.b0.extractLsb' 5 2 = 2#2 → p.b0.getLsbD 7 = true → ∃ len : Fin 5, len.val = min 4 (p.b7 ++ p.b6).toNat ∧
      (p.b1 = 2#8 → exec (.setup p) s = .next { s with ctl := .idle, mainOp := .gsCopy 0 len }) ∧
      (p.b1 = 3#8 → exec (.setup p) s = .next { s with
        ctl := if len.val > 0 then .inResp .snap len 0 else .idle, trace := s.trace ++ [.resp len] })) ∧
    (p.b0.extractLsb' 5 2 ≠ 0#2 →
      (p.b0.extractLsb' 5 2 = 2#2 → p.b1 ≠ 1#8 ∧ p.b1 ≠ 2#8 ∧ p.b1 ≠ 3#8) →
      exec (.setup p) s = .next { s with ctl := .idle, trace := s.trace ++ [.resp 0] })

/-- R109: a setup that is neither standard nor refused ends the transfer in progress: what follows it does not depend
on the `ctl` it found, and it writes neither `duty` nor `silence`. That a new setup does so is the choice of the
spec's D14 (log entry 13, PRESUMED). -/
def Obligations.NewSetupEndsTransfer : Prop :=
  ∀ (p : SetupPacket) (s t : State) (c : CtlState),
    (decodeRequest p).row ≠ 1 → s.refused = none → exec (.setup p) s = .next t → t.refused = none →
    exec (.setup p) { s with ctl := c } = .next t ∧ t.duty = s.duty ∧ t.silence = s.silence

/-- R112, R115: DATA, where R108 enables it. That a refusal replaces the reason of an earlier one is the model's (log
entry 4, DEDUCED). That a data stage which none awaits is discarded is the choice of the spec's D15 (log entry 24,
PRESUMED). -/
def Obligations.DataStageRule : Prop :=
  ∀ s : State, s.boot = .run → s.mainOp = .none → s.tick = .idle →
    (s.ctl = .outWait → ∀ h0 h1 h2 h3 : Byte,
      exec (.data [h0, h1, h2, h3]) s = .next { s with ctl := .idle, mainOp := .ssReset ⟨h0, h1, h2, h3⟩ }) ∧
    (s.ctl = .outWait → ∀ bytes : List Byte, bytes.length ≠ 4 →
      exec (.data bytes) s = .next { s with refused := some .setLen }) ∧
    (s.ctl ≠ .outWait → ∀ bytes : List Byte, exec (.data bytes) s = .next s)

/-- R113: SSRESET, enabled exactly when `mainOp = SS_RESET(b)` and `tick = T_IDLE`. That an event not enabled answers
this named fault is the model's (log entry 3, DEDUCED); that the micro-step's enabling does not ask for `boot = RUN`
is the model's reading (log entry 19, DEDUCED). -/
def Obligations.SsResetRule : Prop :=
  ∀ s : State,
    (∀ b : Bank, s.mainOp = .ssReset b → s.tick = .idle →
      exec .ssReset s = .next { s with silence := 0#8, mainOp := .ssWrite 0 b }) ∧
    ((¬ ∃ b : Bank, s.mainOp = .ssReset b ∧ s.tick = .idle) → exec .ssReset s = .fault .ssResetNotEnabled)

/-- R114: SSWRITE, enabled exactly when `mainOp = SS_WRITE(k, b)` and `tick = T_IDLE`. That an event not enabled
answers this named fault is the model's (log entry 3, DEDUCED); that the micro-step's enabling does not ask for `boot
= RUN` is the model's reading (log entry 19, DEDUCED). That one byte is written a step is the choice of the spec's
D17 (log entry 23, DEDUCED). -/
def Obligations.SsWriteRule : Prop :=
  ∀ s : State,
    (∀ (k : Channel) (b : Bank), s.mainOp = .ssWrite k b → s.tick = .idle →
      ∃ d : Bank, d.get k = b.get k ∧ (∀ j : Channel, j ≠ k → d.get j = s.duty.get j) ∧
        exec .ssWrite s = .next { s with
          duty := d, mainOp := if k = 3 then .none else .ssWrite (k + 1) b }) ∧
    ((¬ ∃ (k : Channel) (b : Bank), s.mainOp = .ssWrite k b ∧ s.tick = .idle) →
      exec .ssWrite s = .fault .ssWriteNotEnabled)

/-- R117: GSCOPY, enabled exactly when `mainOp = GS_COPY(k, len)` and `tick = T_IDLE`. That an event not enabled
answers this named fault is the model's (log entry 3, DEDUCED); that the micro-step's enabling does not ask for `boot
= RUN` is the model's reading (log entry 19, DEDUCED). That one byte is copied a step is the choice of the spec's D17
(log entry 23, DEDUCED). -/
def Obligations.GsCopyRule : Prop :=
  ∀ s : State,
    (∀ (k : Channel) (len : Fin 5), s.mainOp = .gsCopy k len → s.tick = .idle →
      ∃ sc : Bank, sc.get k = s.duty.get k ∧ (∀ j : Channel, j ≠ k → sc.get j = s.scratch.get j) ∧
        (k.val < 3 → exec .gsCopy s = .next { s with scratch := sc, mainOp := .gsCopy (k + 1) len }) ∧
        (¬ k.val < 3 → exec .gsCopy s = .next { s with
          scratch := sc, mainOp := .none, trace := s.trace ++ [.resp len]
          ctl := if len.val > 0 then .inResp .scratch len 0 else .idle })) ∧
    ((¬ ∃ (k : Channel) (len : Fin 5), s.mainOp = .gsCopy k len ∧ s.tick = .idle) →
      exec .gsCopy s = .fault .gsCopyNotEnabled)

/-- R119, R120: IN, where R108 enables it. That a refusal replaces the reason of an earlier one is the model's (log
entry 4, DEDUCED), and so is that `sent + 1` wraps to 0 in states no run reaches (log entry 22, DESIGN CHOICE). That a
GET_TACHO byte is read from `psnap` when the host reads it is the choice of the spec's D16 (log entry 24, PRESUMED). -/
def Obligations.InReadRule : Prop :=
  ∀ s : State, s.boot = .run → s.mainOp = .none → s.tick = .idle →
    (∀ (len : Fin 5) (sent : Channel), s.ctl = .inResp .scratch len sent →
      exec .inRead s = .next { s with
        trace := s.trace ++ [.byte (s.scratch.get sent)]
        ctl := if sent.val + 1 = len.val then .idle else .inResp .scratch len (sent + 1) }) ∧
    (∀ (len : Fin 5) (sent : Channel), s.ctl = .inResp .snap len sent →
      exec .inRead s = .next { s with
        trace := s.trace ++ [.byte (s.psnap.get sent)]
        ctl := if sent.val + 1 = len.val then .idle else .inResp .snap len (sent + 1) }) ∧
    (s.ctl = .idle ∨ s.ctl = .outWait → exec .inRead s = .next { s with refused := some .inNoData })

/-- R123: BUSRESET, where R108 enables it, sets `ctl` to IDLE and changes nothing else. The source does not say what a
bus reset does to the block; R123 calls this effect "this spec's", and it is the choice of the spec's D30 (log entry
24, PRESUMED). -/
def Obligations.BusResetRule : Prop :=
  ∀ s : State, s.boot = .run → s.mainOp = .none → s.tick = .idle →
    exec .busReset s = .next { s with ctl := .idle }

/-- R108: a host event is enabled exactly when `boot = RUN`, `mainOp = NONE` and `tick = T_IDLE`. That an event not
enabled answers this named fault is the model's (log entry 3, DEDUCED), and so is that the seven classes are host
events beside SETUP (log entry 21, DESIGN CHOICE). -/
def Obligations.HostEventsNeedIdleMain : Prop :=
  ∀ (i : Instr) (s : State), isHostEvent i = true →
    (s.boot = .run ∧ s.mainOp = .none ∧ s.tick = .idle → ∃ t, exec i s = .next t) ∧
    (¬ (s.boot = .run ∧ s.mainOp = .none ∧ s.tick = .idle) → exec i s = .fault .hostEventNotEnabled)

/-- R125: of the block's fields, the events of GET_SPEED and GET_TACHO write only `ctl`, `mainOp` and the mark
`refused`, and the GET_SPEED copy `scratch`: `duty`, `pcnt`, `psnap`, `silence`, `levels`, the configuration and
enable bits, `tick` and `boot` keep their values. -/
def Obligations.GetRequestsReadOnly : Prop :=
  ∀ (i : Instr) (s t : State),
    ((∃ h, i = .getSpeed h ∨ i = .getTacho h ∨
        ∃ p, i = .setup p ∧ (decodeRequest p = .getSpeed h ∨ decodeRequest p = .getTacho h)) ∨
      i = .gsCopy ∨ i = .inRead) → exec i s = .next t →
    t.duty = s.duty ∧ t.pcnt = s.pcnt ∧ t.psnap = s.psnap ∧ t.silence = s.silence ∧
    t.levels = s.levels ∧ t.pwmCfg = s.pwmCfg ∧ t.pcie = s.pcie ∧ t.tickArmed = s.tickArmed ∧ t.ie = s.ie ∧
    t.tick = s.tick ∧ t.boot = s.boot ∧ (i ≠ .gsCopy → t.scratch = s.scratch)

/-- R160, second sentence: once copied, a GET_SPEED response does not change: in a state that meets the invariant and
designates it, no event but RESET writes `scratch`. -/
def Obligations.CopiedResponseDoesNotChange : Prop :=
  ∀ (i : Instr) (s t : State) (len : Fin 5) (sent : Channel),
    s.Inv → s.ctl = .inResp .scratch len sent → i ≠ .reset → exec i s = .next t → t.scratch = s.scratch

/-- R124 with interrupts (W1): whatever pin changes, and ticks of which at most S complete, are taken before, among
and after the events of a SET_SPEED and then a GET_SPEED, the response is the four values set. (With more ticks a
restore may come in between, R160, R161.) That the packet's fields lie where R60 and R61 put them is the spec's
general knowledge of USB (log entry 11, PRESUMED). -/
def Obligations.SetThenGetSpeedRoundTrip : Prop :=
  ∀ (v : Bank) (evs : List Instr) (s t : State),
    evs.filter isMainStep = Pseudo.expand s.levels (.setSpeed v) ++ Pseudo.expand s.levels .getSpeed →
    Instr.reset ∉ evs → (∀ lv0, Instr.boot lv0 ∉ evs) → ticksCompleted evs ≤ Config.silenceBound.val →
    runEvents evs s = .next t →
    t.trace = s.trace ++ [.awaitOut, .resp 4, .byte v.c0, .byte v.c1, .byte v.c2, .byte v.c3] ∧
    t.duty = v ∧ t.scratch = v ∧ t.ctl = .idle

/-- R157: with no SSWRITE (and no RESET), duty-cycle registers at the default stay there, whatever ticks restore. -/
def Obligations.DefaultDutyWithoutHostWrites : Prop :=
  ∀ (evs : List Instr) (s t : State),
    s.duty = ⟨Config.defaultDuty, Config.defaultDuty, Config.defaultDuty, Config.defaultDuty⟩ →
    Instr.ssWrite ∉ evs → Instr.reset ∉ evs → runEvents evs s = .next t → t.duty = s.duty

/-! ### Refusals, nesting -/

/-- R37: no event clears the refusal mark, not even RESET. -/
def Obligations.RefusalMarkNeverCleared : Prop :=
  ∀ (i : Instr) (s t : State), exec i s = .next t → s.refused ≠ none → t.refused ≠ none

/-- R148 with R9 and R110: an event that changes the mark changes nothing else, and it is one of the table's, under
the table's condition, with the table's reason. -/
def Obligations.RefusalReasons : Prop :=
  ∀ (i : Instr) (s t : State), exec i s = .next t → t.refused ≠ s.refused →
    ∃ r : Reason, t = { s with refused := some r } ∧
      ((∃ h, (i = .setSpeed h ∨ ∃ p, i = .setup p ∧ decodeRequest p = .setSpeed h) ∧
          (h.dir = .deviceToHost ∧ r = .dirMismatch ∨
           h.dir = .hostToDevice ∧ h.wLength ≠ 4#16 ∧ r = .setLen)) ∨
       (∃ h, (i = .getSpeed h ∨ i = .getTacho h ∨
            ∃ p, i = .setup p ∧ (decodeRequest p = .getSpeed h ∨ decodeRequest p = .getTacho h)) ∧
          h.dir = .hostToDevice ∧ r = .dirMismatch) ∨
       (∃ bytes, i = .data bytes ∧ s.ctl = .outWait ∧ bytes.length ≠ 4 ∧ r = .setLen) ∨
       (i = .inRead ∧ (s.ctl = .idle ∨ s.ctl = .outWait) ∧ r = .inNoData))

/-- R137: while the tick handler runs no MAIN step is enabled. -/
def Obligations.MainBlockedDuringTick : Prop :=
  ∀ (i : Instr) (s t : State), isMainStep i = true → s.tick ≠ .idle → exec i s ≠ .next t

/-- R134, R135, R40: the handlers' micro-steps leave MAIN's position, its response buffer, the trace, the mark, the
masks and the configuration as they were. That entry and return save, restore and mask nothing is the choice of the
spec's D22 (log entry 28, DEDUCED). -/
def Obligations.HandlersLeaveMainAlone : Prop :=
  ∀ (i : Instr) (s t : State), isHandlerStep i = true → exec i s = .next t →
    t.mainOp = s.mainOp ∧ t.ctl = s.ctl ∧ t.scratch = s.scratch ∧ t.trace = s.trace ∧ t.refused = s.refused ∧
    t.ie = s.ie ∧ t.pcie = s.pcie ∧ t.tickArmed = s.tickArmed ∧ t.pwmCfg = s.pwmCfg ∧ t.boot = s.boot ∧
    t.inbox = s.inbox ∧ t.draws = s.draws

/-! ### Runs: what may be next, and what must come (R133, R144) -/

/-- R8, R133: any one enabled event may be next, so the state it gives from a reachable state is reachable. -/
def Obligations.AnyEnabledEventMayBeNext : Prop :=
  ∀ (i : Instr) (s t : State), i.WellFormed → Reachable s → exec i s = .next t → Reachable t

/-- R144 with R99, R91, R92 and R100: in a fair run ticks keep coming, and each one's own handler completes: from its
TICKENTER to the next TICKWD the handler runs without a break and no other tick begins or ends, every channel is
copied and then cleared, and every copy comes before every clear. That a run after BOOT has no RESET in it is the
model's reading of R149 (log entry 16, DEDUCED). That a commit copies, and then clears,
one channel a step is the choice of the spec's D18 (log entry 15, DEDUCED). -/
def Obligations.FairRunsKeepCommitting : Prop :=
  ∀ (ev : Nat → Instr) (st : Nat → State), FairRun ev st →
    (∀ n : Nat, ∃ a, n ≤ a ∧ ev a = .tickEnter) ∧
    ∀ a : Nat, ev a = .tickEnter → ∃ b, a < b ∧ ev b = .tickWd ∧
      (∀ m, a < m → m < b → ev m ≠ .tickEnter ∧ ev m ≠ .tickWd) ∧
      (∀ m, a < m → m ≤ b → (st m).tick ≠ .idle) ∧ (st (b + 1)).tick = .idle ∧
      (∀ k : Channel, ∃ c d : Nat, a < c ∧ c < d ∧ d < b ∧ ev c = .tickCopy k ∧ ev d = .tickClear k) ∧
      (∀ (j k : Channel) (c d : Nat), a < c → c < b → a < d → d < b →
        ev c = .tickCopy j → ev d = .tickClear k → c < d)

/-- R144 with R103 and R145: a host that stops writing is caught. In a fair run in which no SSRESET is taken from some
point on, whatever else is, all four channels reach the default and stay there. That a run after BOOT has no RESET in it is
the model's reading of R149 (log entry 16, DEDUCED). -/
def Obligations.FairRunsRestoreAfterSilence : Prop :=
  ∀ (ev : Nat → Instr) (st : Nat → State) (n : Nat), FairRun ev st → (∀ m, n ≤ m → ev m ≠ .ssReset) →
    ∃ p, n ≤ p ∧ ∀ m, p ≤ m →
      (st m).duty = ⟨Config.defaultDuty, Config.defaultDuty, Config.defaultDuty, Config.defaultDuty⟩

end
end

