-- ==== Sys2Proof/Laws/State.lean ====
section
/-! SUPPORT. One lemma per field per shared update of State, each true by rfl, so that no later proof unfolds an update. -/

namespace Sys2Proof.Machine

/-! ### emit x s -/

@[simp] theorem emit_duty (x : TraceItem) (s : State) : (emit x s).duty = s.duty := rfl
@[simp] theorem emit_pwmCfg (x : TraceItem) (s : State) : (emit x s).pwmCfg = s.pwmCfg := rfl
@[simp] theorem emit_pcnt (x : TraceItem) (s : State) : (emit x s).pcnt = s.pcnt := rfl
@[simp] theorem emit_psnap (x : TraceItem) (s : State) : (emit x s).psnap = s.psnap := rfl
@[simp] theorem emit_levels (x : TraceItem) (s : State) : (emit x s).levels = s.levels := rfl
@[simp] theorem emit_pcie (x : TraceItem) (s : State) : (emit x s).pcie = s.pcie := rfl
@[simp] theorem emit_tickArmed (x : TraceItem) (s : State) : (emit x s).tickArmed = s.tickArmed := rfl
@[simp] theorem emit_silence (x : TraceItem) (s : State) : (emit x s).silence = s.silence := rfl
@[simp] theorem emit_scratch (x : TraceItem) (s : State) : (emit x s).scratch = s.scratch := rfl
@[simp] theorem emit_ctl (x : TraceItem) (s : State) : (emit x s).ctl = s.ctl := rfl
@[simp] theorem emit_mainOp (x : TraceItem) (s : State) : (emit x s).mainOp = s.mainOp := rfl
@[simp] theorem emit_tick (x : TraceItem) (s : State) : (emit x s).tick = s.tick := rfl
@[simp] theorem emit_ie (x : TraceItem) (s : State) : (emit x s).ie = s.ie := rfl
@[simp] theorem emit_refused (x : TraceItem) (s : State) : (emit x s).refused = s.refused := rfl
@[simp] theorem emit_boot (x : TraceItem) (s : State) : (emit x s).boot = s.boot := rfl
@[simp] theorem emit_trace (x : TraceItem) (s : State) : (emit x s).trace = s.trace ++ [x] := rfl
@[simp] theorem emit_inbox (x : TraceItem) (s : State) : (emit x s).inbox = s.inbox := rfl
@[simp] theorem emit_draws (x : TraceItem) (s : State) : (emit x s).draws = s.draws := rfl

/-! ### raiseRefused r s -/

@[simp] theorem raiseRefused_duty (r : Reason) (s : State) : (raiseRefused r s).duty = s.duty := rfl
@[simp] theorem raiseRefused_pwmCfg (r : Reason) (s : State) : (raiseRefused r s).pwmCfg = s.pwmCfg := rfl
@[simp] theorem raiseRefused_pcnt (r : Reason) (s : State) : (raiseRefused r s).pcnt = s.pcnt := rfl
@[simp] theorem raiseRefused_psnap (r : Reason) (s : State) : (raiseRefused r s).psnap = s.psnap := rfl
@[simp] theorem raiseRefused_levels (r : Reason) (s : State) : (raiseRefused r s).levels = s.levels := rfl
@[simp] theorem raiseRefused_pcie (r : Reason) (s : State) : (raiseRefused r s).pcie = s.pcie := rfl
@[simp] theorem raiseRefused_tickArmed (r : Reason) (s : State) : (raiseRefused r s).tickArmed = s.tickArmed := rfl
@[simp] theorem raiseRefused_silence (r : Reason) (s : State) : (raiseRefused r s).silence = s.silence := rfl
@[simp] theorem raiseRefused_scratch (r : Reason) (s : State) : (raiseRefused r s).scratch = s.scratch := rfl
@[simp] theorem raiseRefused_ctl (r : Reason) (s : State) : (raiseRefused r s).ctl = s.ctl := rfl
@[simp] theorem raiseRefused_mainOp (r : Reason) (s : State) : (raiseRefused r s).mainOp = s.mainOp := rfl
@[simp] theorem raiseRefused_tick (r : Reason) (s : State) : (raiseRefused r s).tick = s.tick := rfl
@[simp] theorem raiseRefused_ie (r : Reason) (s : State) : (raiseRefused r s).ie = s.ie := rfl
@[simp] theorem raiseRefused_refused (r : Reason) (s : State) : (raiseRefused r s).refused = some r := rfl
@[simp] theorem raiseRefused_boot (r : Reason) (s : State) : (raiseRefused r s).boot = s.boot := rfl
@[simp] theorem raiseRefused_trace (r : Reason) (s : State) : (raiseRefused r s).trace = s.trace := rfl
@[simp] theorem raiseRefused_inbox (r : Reason) (s : State) : (raiseRefused r s).inbox = s.inbox := rfl
@[simp] theorem raiseRefused_draws (r : Reason) (s : State) : (raiseRefused r s).draws = s.draws := rfl

/-! ### enterInterrupt .pinChange s -/

@[simp] theorem enterInterrupt_pinChange_duty (s : State) : (enterInterrupt .pinChange s).duty = s.duty := rfl
@[simp] theorem enterInterrupt_pinChange_pwmCfg (s : State) : (enterInterrupt .pinChange s).pwmCfg = s.pwmCfg := rfl
@[simp] theorem enterInterrupt_pinChange_pcnt (s : State) : (enterInterrupt .pinChange s).pcnt = s.pcnt := rfl
@[simp] theorem enterInterrupt_pinChange_psnap (s : State) : (enterInterrupt .pinChange s).psnap = s.psnap := rfl
@[simp] theorem enterInterrupt_pinChange_levels (s : State) : (enterInterrupt .pinChange s).levels = s.levels := rfl
@[simp] theorem enterInterrupt_pinChange_pcie (s : State) : (enterInterrupt .pinChange s).pcie = s.pcie := rfl
@[simp] theorem enterInterrupt_pinChange_tickArmed (s : State) : (enterInterrupt .pinChange s).tickArmed = s.tickArmed := rfl
@[simp] theorem enterInterrupt_pinChange_silence (s : State) : (enterInterrupt .pinChange s).silence = s.silence := rfl
@[simp] theorem enterInterrupt_pinChange_scratch (s : State) : (enterInterrupt .pinChange s).scratch = s.scratch := rfl
@[simp] theorem enterInterrupt_pinChange_ctl (s : State) : (enterInterrupt .pinChange s).ctl = s.ctl := rfl
@[simp] theorem enterInterrupt_pinChange_mainOp (s : State) : (enterInterrupt .pinChange s).mainOp = s.mainOp := rfl
@[simp] theorem enterInterrupt_pinChange_tick (s : State) : (enterInterrupt .pinChange s).tick = s.tick := rfl
@[simp] theorem enterInterrupt_pinChange_ie (s : State) : (enterInterrupt .pinChange s).ie = s.ie := rfl
@[simp] theorem enterInterrupt_pinChange_refused (s : State) : (enterInterrupt .pinChange s).refused = s.refused := rfl
@[simp] theorem enterInterrupt_pinChange_boot (s : State) : (enterInterrupt .pinChange s).boot = s.boot := rfl
@[simp] theorem enterInterrupt_pinChange_trace (s : State) : (enterInterrupt .pinChange s).trace = s.trace := rfl
@[simp] theorem enterInterrupt_pinChange_inbox (s : State) : (enterInterrupt .pinChange s).inbox = s.inbox := rfl
@[simp] theorem enterInterrupt_pinChange_draws (s : State) : (enterInterrupt .pinChange s).draws = s.draws := rfl

/-! ### enterInterrupt .tick s -/

@[simp] theorem enterInterrupt_tick_duty (s : State) : (enterInterrupt .tick s).duty = s.duty := rfl
@[simp] theorem enterInterrupt_tick_pwmCfg (s : State) : (enterInterrupt .tick s).pwmCfg = s.pwmCfg := rfl
@[simp] theorem enterInterrupt_tick_pcnt (s : State) : (enterInterrupt .tick s).pcnt = s.pcnt := rfl
@[simp] theorem enterInterrupt_tick_psnap (s : State) : (enterInterrupt .tick s).psnap = s.psnap := rfl
@[simp] theorem enterInterrupt_tick_levels (s : State) : (enterInterrupt .tick s).levels = s.levels := rfl
@[simp] theorem enterInterrupt_tick_pcie (s : State) : (enterInterrupt .tick s).pcie = s.pcie := rfl
@[simp] theorem enterInterrupt_tick_tickArmed (s : State) : (enterInterrupt .tick s).tickArmed = s.tickArmed := rfl
@[simp] theorem enterInterrupt_tick_silence (s : State) : (enterInterrupt .tick s).silence = s.silence := rfl
@[simp] theorem enterInterrupt_tick_scratch (s : State) : (enterInterrupt .tick s).scratch = s.scratch := rfl
@[simp] theorem enterInterrupt_tick_ctl (s : State) : (enterInterrupt .tick s).ctl = s.ctl := rfl
@[simp] theorem enterInterrupt_tick_mainOp (s : State) : (enterInterrupt .tick s).mainOp = s.mainOp := rfl
@[simp] theorem enterInterrupt_tick_tick (s : State) : (enterInterrupt .tick s).tick = .copy noChannels := rfl
@[simp] theorem enterInterrupt_tick_ie (s : State) : (enterInterrupt .tick s).ie = s.ie := rfl
@[simp] theorem enterInterrupt_tick_refused (s : State) : (enterInterrupt .tick s).refused = s.refused := rfl
@[simp] theorem enterInterrupt_tick_boot (s : State) : (enterInterrupt .tick s).boot = s.boot := rfl
@[simp] theorem enterInterrupt_tick_trace (s : State) : (enterInterrupt .tick s).trace = s.trace := rfl
@[simp] theorem enterInterrupt_tick_inbox (s : State) : (enterInterrupt .tick s).inbox = s.inbox := rfl
@[simp] theorem enterInterrupt_tick_draws (s : State) : (enterInterrupt .tick s).draws = s.draws := rfl

/-! ### returnFromInterrupt .pinChange s -/

@[simp] theorem returnFromInterrupt_pinChange_duty (s : State) : (returnFromInterrupt .pinChange s).duty = s.duty := rfl
@[simp] theorem returnFromInterrupt_pinChange_pwmCfg (s : State) : (returnFromInterrupt .pinChange s).pwmCfg = s.pwmCfg := rfl
@[simp] theorem returnFromInterrupt_pinChange_pcnt (s : State) : (returnFromInterrupt .pinChange s).pcnt = s.pcnt := rfl
@[simp] theorem returnFromInterrupt_pinChange_psnap (s : State) : (returnFromInterrupt .pinChange s).psnap = s.psnap := rfl
@[simp] theorem returnFromInterrupt_pinChange_levels (s : State) : (returnFromInterrupt .pinChange s).levels = s.levels := rfl
@[simp] theorem returnFromInterrupt_pinChange_pcie (s : State) : (returnFromInterrupt .pinChange s).pcie = s.pcie := rfl
@[simp] theorem returnFromInterrupt_pinChange_tickArmed (s : State) : (returnFromInterrupt .pinChange s).tickArmed = s.tickArmed := rfl
@[simp] theorem returnFromInterrupt_pinChange_silence (s : State) : (returnFromInterrupt .pinChange s).silence = s.silence := rfl
@[simp] theorem returnFromInterrupt_pinChange_scratch (s : State) : (returnFromInterrupt .pinChange s).scratch = s.scratch := rfl
@[simp] theorem returnFromInterrupt_pinChange_ctl (s : State) : (returnFromInterrupt .pinChange s).ctl = s.ctl := rfl
@[simp] theorem returnFromInterrupt_pinChange_mainOp (s : State) : (returnFromInterrupt .pinChange s).mainOp = s.mainOp := rfl
@[simp] theorem returnFromInterrupt_pinChange_tick (s : State) : (returnFromInterrupt .pinChange s).tick = s.tick := rfl
@[simp] theorem returnFromInterrupt_pinChange_ie (s : State) : (returnFromInterrupt .pinChange s).ie = s.ie := rfl
@[simp] theorem returnFromInterrupt_pinChange_refused (s : State) : (returnFromInterrupt .pinChange s).refused = s.refused := rfl
@[simp] theorem returnFromInterrupt_pinChange_boot (s : State) : (returnFromInterrupt .pinChange s).boot = s.boot := rfl
@[simp] theorem returnFromInterrupt_pinChange_trace (s : State) : (returnFromInterrupt .pinChange s).trace = s.trace := rfl
@[simp] theorem returnFromInterrupt_pinChange_inbox (s : State) : (returnFromInterrupt .pinChange s).inbox = s.inbox := rfl
@[simp] theorem returnFromInterrupt_pinChange_draws (s : State) : (returnFromInterrupt .pinChange s).draws = s.draws := rfl

/-! ### returnFromInterrupt .tick s -/

@[simp] theorem returnFromInterrupt_tick_duty (s : State) : (returnFromInterrupt .tick s).duty = s.duty := rfl
@[simp] theorem returnFromInterrupt_tick_pwmCfg (s : State) : (returnFromInterrupt .tick s).pwmCfg = s.pwmCfg := rfl
@[simp] theorem returnFromInterrupt_tick_pcnt (s : State) : (returnFromInterrupt .tick s).pcnt = s.pcnt := rfl
@[simp] theorem returnFromInterrupt_tick_psnap (s : State) : (returnFromInterrupt .tick s).psnap = s.psnap := rfl
@[simp] theorem returnFromInterrupt_tick_levels (s : State) : (returnFromInterrupt .tick s).levels = s.levels := rfl
@[simp] theorem returnFromInterrupt_tick_pcie (s : State) : (returnFromInterrupt .tick s).pcie = s.pcie := rfl
@[simp] theorem returnFromInterrupt_tick_tickArmed (s : State) : (returnFromInterrupt .tick s).tickArmed = s.tickArmed := rfl
@[simp] theorem returnFromInterrupt_tick_silence (s : State) : (returnFromInterrupt .tick s).silence = s.silence := rfl
@[simp] theorem returnFromInterrupt_tick_scratch (s : State) : (returnFromInterrupt .tick s).scratch = s.scratch := rfl
@[simp] theorem returnFromInterrupt_tick_ctl (s : State) : (returnFromInterrupt .tick s).ctl = s.ctl := rfl
@[simp] theorem returnFromInterrupt_tick_mainOp (s : State) : (returnFromInterrupt .tick s).mainOp = s.mainOp := rfl
@[simp] theorem returnFromInterrupt_tick_tick (s : State) : (returnFromInterrupt .tick s).tick = .idle := rfl
@[simp] theorem returnFromInterrupt_tick_ie (s : State) : (returnFromInterrupt .tick s).ie = s.ie := rfl
@[simp] theorem returnFromInterrupt_tick_refused (s : State) : (returnFromInterrupt .tick s).refused = s.refused := rfl
@[simp] theorem returnFromInterrupt_tick_boot (s : State) : (returnFromInterrupt .tick s).boot = s.boot := rfl
@[simp] theorem returnFromInterrupt_tick_trace (s : State) : (returnFromInterrupt .tick s).trace = s.trace := rfl
@[simp] theorem returnFromInterrupt_tick_inbox (s : State) : (returnFromInterrupt .tick s).inbox = s.inbox := rfl
@[simp] theorem returnFromInterrupt_tick_draws (s : State) : (returnFromInterrupt .tick s).draws = s.draws := rfl

/-! ### memWrite .duty k v s -/

@[simp] theorem memWrite_duty_duty (k : Channel) (v : Byte) (s : State) : (memWrite .duty k v s).duty = s.duty.set k v := rfl
@[simp] theorem memWrite_duty_pwmCfg (k : Channel) (v : Byte) (s : State) : (memWrite .duty k v s).pwmCfg = s.pwmCfg := rfl
@[simp] theorem memWrite_duty_pcnt (k : Channel) (v : Byte) (s : State) : (memWrite .duty k v s).pcnt = s.pcnt := rfl
@[simp] theorem memWrite_duty_psnap (k : Channel) (v : Byte) (s : State) : (memWrite .duty k v s).psnap = s.psnap := rfl
@[simp] theorem memWrite_duty_levels (k : Channel) (v : Byte) (s : State) : (memWrite .duty k v s).levels = s.levels := rfl
@[simp] theorem memWrite_duty_pcie (k : Channel) (v : Byte) (s : State) : (memWrite .duty k v s).pcie = s.pcie := rfl
@[simp] theorem memWrite_duty_tickArmed (k : Channel) (v : Byte) (s : State) : (memWrite .duty k v s).tickArmed = s.tickArmed := rfl
@[simp] theorem memWrite_duty_silence (k : Channel) (v : Byte) (s : State) : (memWrite .duty k v s).silence = s.silence := rfl
@[simp] theorem memWrite_duty_scratch (k : Channel) (v : Byte) (s : State) : (memWrite .duty k v s).scratch = s.scratch := rfl
@[simp] theorem memWrite_duty_ctl (k : Channel) (v : Byte) (s : State) : (memWrite .duty k v s).ctl = s.ctl := rfl
@[simp] theorem memWrite_duty_mainOp (k : Channel) (v : Byte) (s : State) : (memWrite .duty k v s).mainOp = s.mainOp := rfl
@[simp] theorem memWrite_duty_tick (k : Channel) (v : Byte) (s : State) : (memWrite .duty k v s).tick = s.tick := rfl
@[simp] theorem memWrite_duty_ie (k : Channel) (v : Byte) (s : State) : (memWrite .duty k v s).ie = s.ie := rfl
@[simp] theorem memWrite_duty_refused (k : Channel) (v : Byte) (s : State) : (memWrite .duty k v s).refused = s.refused := rfl
@[simp] theorem memWrite_duty_boot (k : Channel) (v : Byte) (s : State) : (memWrite .duty k v s).boot = s.boot := rfl
@[simp] theorem memWrite_duty_trace (k : Channel) (v : Byte) (s : State) : (memWrite .duty k v s).trace = s.trace := rfl
@[simp] theorem memWrite_duty_inbox (k : Channel) (v : Byte) (s : State) : (memWrite .duty k v s).inbox = s.inbox := rfl
@[simp] theorem memWrite_duty_draws (k : Channel) (v : Byte) (s : State) : (memWrite .duty k v s).draws = s.draws := rfl

/-! ### memWrite .pcnt k v s -/

@[simp] theorem memWrite_pcnt_duty (k : Channel) (v : Byte) (s : State) : (memWrite .pcnt k v s).duty = s.duty := rfl
@[simp] theorem memWrite_pcnt_pwmCfg (k : Channel) (v : Byte) (s : State) : (memWrite .pcnt k v s).pwmCfg = s.pwmCfg := rfl
@[simp] theorem memWrite_pcnt_pcnt (k : Channel) (v : Byte) (s : State) : (memWrite .pcnt k v s).pcnt = s.pcnt.set k v := rfl
@[simp] theorem memWrite_pcnt_psnap (k : Channel) (v : Byte) (s : State) : (memWrite .pcnt k v s).psnap = s.psnap := rfl
@[simp] theorem memWrite_pcnt_levels (k : Channel) (v : Byte) (s : State) : (memWrite .pcnt k v s).levels = s.levels := rfl
@[simp] theorem memWrite_pcnt_pcie (k : Channel) (v : Byte) (s : State) : (memWrite .pcnt k v s).pcie = s.pcie := rfl
@[simp] theorem memWrite_pcnt_tickArmed (k : Channel) (v : Byte) (s : State) : (memWrite .pcnt k v s).tickArmed = s.tickArmed := rfl
@[simp] theorem memWrite_pcnt_silence (k : Channel) (v : Byte) (s : State) : (memWrite .pcnt k v s).silence = s.silence := rfl
@[simp] theorem memWrite_pcnt_scratch (k : Channel) (v : Byte) (s : State) : (memWrite .pcnt k v s).scratch = s.scratch := rfl
@[simp] theorem memWrite_pcnt_ctl (k : Channel) (v : Byte) (s : State) : (memWrite .pcnt k v s).ctl = s.ctl := rfl
@[simp] theorem memWrite_pcnt_mainOp (k : Channel) (v : Byte) (s : State) : (memWrite .pcnt k v s).mainOp = s.mainOp := rfl
@[simp] theorem memWrite_pcnt_tick (k : Channel) (v : Byte) (s : State) : (memWrite .pcnt k v s).tick = s.tick := rfl
@[simp] theorem memWrite_pcnt_ie (k : Channel) (v : Byte) (s : State) : (memWrite .pcnt k v s).ie = s.ie := rfl
@[simp] theorem memWrite_pcnt_refused (k : Channel) (v : Byte) (s : State) : (memWrite .pcnt k v s).refused = s.refused := rfl
@[simp] theorem memWrite_pcnt_boot (k : Channel) (v : Byte) (s : State) : (memWrite .pcnt k v s).boot = s.boot := rfl
@[simp] theorem memWrite_pcnt_trace (k : Channel) (v : Byte) (s : State) : (memWrite .pcnt k v s).trace = s.trace := rfl
@[simp] theorem memWrite_pcnt_inbox (k : Channel) (v : Byte) (s : State) : (memWrite .pcnt k v s).inbox = s.inbox := rfl
@[simp] theorem memWrite_pcnt_draws (k : Channel) (v : Byte) (s : State) : (memWrite .pcnt k v s).draws = s.draws := rfl

/-! ### memWrite .snap k v s -/

@[simp] theorem memWrite_snap_duty (k : Channel) (v : Byte) (s : State) : (memWrite .snap k v s).duty = s.duty := rfl
@[simp] theorem memWrite_snap_pwmCfg (k : Channel) (v : Byte) (s : State) : (memWrite .snap k v s).pwmCfg = s.pwmCfg := rfl
@[simp] theorem memWrite_snap_pcnt (k : Channel) (v : Byte) (s : State) : (memWrite .snap k v s).pcnt = s.pcnt := rfl
@[simp] theorem memWrite_snap_psnap (k : Channel) (v : Byte) (s : State) : (memWrite .snap k v s).psnap = s.psnap.set k v := rfl
@[simp] theorem memWrite_snap_levels (k : Channel) (v : Byte) (s : State) : (memWrite .snap k v s).levels = s.levels := rfl
@[simp] theorem memWrite_snap_pcie (k : Channel) (v : Byte) (s : State) : (memWrite .snap k v s).pcie = s.pcie := rfl
@[simp] theorem memWrite_snap_tickArmed (k : Channel) (v : Byte) (s : State) : (memWrite .snap k v s).tickArmed = s.tickArmed := rfl
@[simp] theorem memWrite_snap_silence (k : Channel) (v : Byte) (s : State) : (memWrite .snap k v s).silence = s.silence := rfl
@[simp] theorem memWrite_snap_scratch (k : Channel) (v : Byte) (s : State) : (memWrite .snap k v s).scratch = s.scratch := rfl
@[simp] theorem memWrite_snap_ctl (k : Channel) (v : Byte) (s : State) : (memWrite .snap k v s).ctl = s.ctl := rfl
@[simp] theorem memWrite_snap_mainOp (k : Channel) (v : Byte) (s : State) : (memWrite .snap k v s).mainOp = s.mainOp := rfl
@[simp] theorem memWrite_snap_tick (k : Channel) (v : Byte) (s : State) : (memWrite .snap k v s).tick = s.tick := rfl
@[simp] theorem memWrite_snap_ie (k : Channel) (v : Byte) (s : State) : (memWrite .snap k v s).ie = s.ie := rfl
@[simp] theorem memWrite_snap_refused (k : Channel) (v : Byte) (s : State) : (memWrite .snap k v s).refused = s.refused := rfl
@[simp] theorem memWrite_snap_boot (k : Channel) (v : Byte) (s : State) : (memWrite .snap k v s).boot = s.boot := rfl
@[simp] theorem memWrite_snap_trace (k : Channel) (v : Byte) (s : State) : (memWrite .snap k v s).trace = s.trace := rfl
@[simp] theorem memWrite_snap_inbox (k : Channel) (v : Byte) (s : State) : (memWrite .snap k v s).inbox = s.inbox := rfl
@[simp] theorem memWrite_snap_draws (k : Channel) (v : Byte) (s : State) : (memWrite .snap k v s).draws = s.draws := rfl

/-! ### memWrite .scratch k v s -/

@[simp] theorem memWrite_scratch_duty (k : Channel) (v : Byte) (s : State) : (memWrite .scratch k v s).duty = s.duty := rfl
@[simp] theorem memWrite_scratch_pwmCfg (k : Channel) (v : Byte) (s : State) : (memWrite .scratch k v s).pwmCfg = s.pwmCfg := rfl
@[simp] theorem memWrite_scratch_pcnt (k : Channel) (v : Byte) (s : State) : (memWrite .scratch k v s).pcnt = s.pcnt := rfl
@[simp] theorem memWrite_scratch_psnap (k : Channel) (v : Byte) (s : State) : (memWrite .scratch k v s).psnap = s.psnap := rfl
@[simp] theorem memWrite_scratch_levels (k : Channel) (v : Byte) (s : State) : (memWrite .scratch k v s).levels = s.levels := rfl
@[simp] theorem memWrite_scratch_pcie (k : Channel) (v : Byte) (s : State) : (memWrite .scratch k v s).pcie = s.pcie := rfl
@[simp] theorem memWrite_scratch_tickArmed (k : Channel) (v : Byte) (s : State) : (memWrite .scratch k v s).tickArmed = s.tickArmed := rfl
@[simp] theorem memWrite_scratch_silence (k : Channel) (v : Byte) (s : State) : (memWrite .scratch k v s).silence = s.silence := rfl
@[simp] theorem memWrite_scratch_scratch (k : Channel) (v : Byte) (s : State) : (memWrite .scratch k v s).scratch = s.scratch.set k v := rfl
@[simp] theorem memWrite_scratch_ctl (k : Channel) (v : Byte) (s : State) : (memWrite .scratch k v s).ctl = s.ctl := rfl
@[simp] theorem memWrite_scratch_mainOp (k : Channel) (v : Byte) (s : State) : (memWrite .scratch k v s).mainOp = s.mainOp := rfl
@[simp] theorem memWrite_scratch_tick (k : Channel) (v : Byte) (s : State) : (memWrite .scratch k v s).tick = s.tick := rfl
@[simp] theorem memWrite_scratch_ie (k : Channel) (v : Byte) (s : State) : (memWrite .scratch k v s).ie = s.ie := rfl
@[simp] theorem memWrite_scratch_refused (k : Channel) (v : Byte) (s : State) : (memWrite .scratch k v s).refused = s.refused := rfl
@[simp] theorem memWrite_scratch_boot (k : Channel) (v : Byte) (s : State) : (memWrite .scratch k v s).boot = s.boot := rfl
@[simp] theorem memWrite_scratch_trace (k : Channel) (v : Byte) (s : State) : (memWrite .scratch k v s).trace = s.trace := rfl
@[simp] theorem memWrite_scratch_inbox (k : Channel) (v : Byte) (s : State) : (memWrite .scratch k v s).inbox = s.inbox := rfl
@[simp] theorem memWrite_scratch_draws (k : Channel) (v : Byte) (s : State) : (memWrite .scratch k v s).draws = s.draws := rfl

/-! ### configurePwm s -/

@[simp] theorem configurePwm_duty (s : State) : (configurePwm s).duty = s.duty := rfl
@[simp] theorem configurePwm_pwmCfg (s : State) : (configurePwm s).pwmCfg = true := rfl
@[simp] theorem configurePwm_pcnt (s : State) : (configurePwm s).pcnt = s.pcnt := rfl
@[simp] theorem configurePwm_psnap (s : State) : (configurePwm s).psnap = s.psnap := rfl
@[simp] theorem configurePwm_levels (s : State) : (configurePwm s).levels = s.levels := rfl
@[simp] theorem configurePwm_pcie (s : State) : (configurePwm s).pcie = s.pcie := rfl
@[simp] theorem configurePwm_tickArmed (s : State) : (configurePwm s).tickArmed = s.tickArmed := rfl
@[simp] theorem configurePwm_silence (s : State) : (configurePwm s).silence = s.silence := rfl
@[simp] theorem configurePwm_scratch (s : State) : (configurePwm s).scratch = s.scratch := rfl
@[simp] theorem configurePwm_ctl (s : State) : (configurePwm s).ctl = s.ctl := rfl
@[simp] theorem configurePwm_mainOp (s : State) : (configurePwm s).mainOp = s.mainOp := rfl
@[simp] theorem configurePwm_tick (s : State) : (configurePwm s).tick = s.tick := rfl
@[simp] theorem configurePwm_ie (s : State) : (configurePwm s).ie = s.ie := rfl
@[simp] theorem configurePwm_refused (s : State) : (configurePwm s).refused = s.refused := rfl
@[simp] theorem configurePwm_boot (s : State) : (configurePwm s).boot = s.boot := rfl
@[simp] theorem configurePwm_trace (s : State) : (configurePwm s).trace = s.trace := rfl
@[simp] theorem configurePwm_inbox (s : State) : (configurePwm s).inbox = s.inbox := rfl
@[simp] theorem configurePwm_draws (s : State) : (configurePwm s).draws = s.draws := rfl

/-! ### setDutyCycle k v s -/

@[simp] theorem setDutyCycle_duty (k : Channel) (v : Byte) (s : State) : (setDutyCycle k v s).duty = s.duty.set k v := rfl
@[simp] theorem setDutyCycle_pwmCfg (k : Channel) (v : Byte) (s : State) : (setDutyCycle k v s).pwmCfg = s.pwmCfg := rfl
@[simp] theorem setDutyCycle_pcnt (k : Channel) (v : Byte) (s : State) : (setDutyCycle k v s).pcnt = s.pcnt := rfl
@[simp] theorem setDutyCycle_psnap (k : Channel) (v : Byte) (s : State) : (setDutyCycle k v s).psnap = s.psnap := rfl
@[simp] theorem setDutyCycle_levels (k : Channel) (v : Byte) (s : State) : (setDutyCycle k v s).levels = s.levels := rfl
@[simp] theorem setDutyCycle_pcie (k : Channel) (v : Byte) (s : State) : (setDutyCycle k v s).pcie = s.pcie := rfl
@[simp] theorem setDutyCycle_tickArmed (k : Channel) (v : Byte) (s : State) : (setDutyCycle k v s).tickArmed = s.tickArmed := rfl
@[simp] theorem setDutyCycle_silence (k : Channel) (v : Byte) (s : State) : (setDutyCycle k v s).silence = s.silence := rfl
@[simp] theorem setDutyCycle_scratch (k : Channel) (v : Byte) (s : State) : (setDutyCycle k v s).scratch = s.scratch := rfl
@[simp] theorem setDutyCycle_ctl (k : Channel) (v : Byte) (s : State) : (setDutyCycle k v s).ctl = s.ctl := rfl
@[simp] theorem setDutyCycle_mainOp (k : Channel) (v : Byte) (s : State) : (setDutyCycle k v s).mainOp = s.mainOp := rfl
@[simp] theorem setDutyCycle_tick (k : Channel) (v : Byte) (s : State) : (setDutyCycle k v s).tick = s.tick := rfl
@[simp] theorem setDutyCycle_ie (k : Channel) (v : Byte) (s : State) : (setDutyCycle k v s).ie = s.ie := rfl
@[simp] theorem setDutyCycle_refused (k : Channel) (v : Byte) (s : State) : (setDutyCycle k v s).refused = s.refused := rfl
@[simp] theorem setDutyCycle_boot (k : Channel) (v : Byte) (s : State) : (setDutyCycle k v s).boot = s.boot := rfl
@[simp] theorem setDutyCycle_trace (k : Channel) (v : Byte) (s : State) : (setDutyCycle k v s).trace = s.trace := rfl
@[simp] theorem setDutyCycle_inbox (k : Channel) (v : Byte) (s : State) : (setDutyCycle k v s).inbox = s.inbox := rfl
@[simp] theorem setDutyCycle_draws (k : Channel) (v : Byte) (s : State) : (setDutyCycle k v s).draws = s.draws := rfl

/-! ### setAllDuty v s -/

@[simp] theorem setAllDuty_duty (v : Byte) (s : State) : (setAllDuty v s).duty = Bank.fill v := rfl
@[simp] theorem setAllDuty_pwmCfg (v : Byte) (s : State) : (setAllDuty v s).pwmCfg = s.pwmCfg := rfl
@[simp] theorem setAllDuty_pcnt (v : Byte) (s : State) : (setAllDuty v s).pcnt = s.pcnt := rfl
@[simp] theorem setAllDuty_psnap (v : Byte) (s : State) : (setAllDuty v s).psnap = s.psnap := rfl
@[simp] theorem setAllDuty_levels (v : Byte) (s : State) : (setAllDuty v s).levels = s.levels := rfl
@[simp] theorem setAllDuty_pcie (v : Byte) (s : State) : (setAllDuty v s).pcie = s.pcie := rfl
@[simp] theorem setAllDuty_tickArmed (v : Byte) (s : State) : (setAllDuty v s).tickArmed = s.tickArmed := rfl
@[simp] theorem setAllDuty_silence (v : Byte) (s : State) : (setAllDuty v s).silence = s.silence := rfl
@[simp] theorem setAllDuty_scratch (v : Byte) (s : State) : (setAllDuty v s).scratch = s.scratch := rfl
@[simp] theorem setAllDuty_ctl (v : Byte) (s : State) : (setAllDuty v s).ctl = s.ctl := rfl
@[simp] theorem setAllDuty_mainOp (v : Byte) (s : State) : (setAllDuty v s).mainOp = s.mainOp := rfl
@[simp] theorem setAllDuty_tick (v : Byte) (s : State) : (setAllDuty v s).tick = s.tick := rfl
@[simp] theorem setAllDuty_ie (v : Byte) (s : State) : (setAllDuty v s).ie = s.ie := rfl
@[simp] theorem setAllDuty_refused (v : Byte) (s : State) : (setAllDuty v s).refused = s.refused := rfl
@[simp] theorem setAllDuty_boot (v : Byte) (s : State) : (setAllDuty v s).boot = s.boot := rfl
@[simp] theorem setAllDuty_trace (v : Byte) (s : State) : (setAllDuty v s).trace = s.trace := rfl
@[simp] theorem setAllDuty_inbox (v : Byte) (s : State) : (setAllDuty v s).inbox = s.inbox := rfl
@[simp] theorem setAllDuty_draws (v : Byte) (s : State) : (setAllDuty v s).draws = s.draws := rfl

/-! ### restoreDefaultDutyCycle v s -/

@[simp] theorem restoreDefaultDutyCycle_duty (v : Byte) (s : State) : (restoreDefaultDutyCycle v s).duty = Bank.fill v := rfl
@[simp] theorem restoreDefaultDutyCycle_pwmCfg (v : Byte) (s : State) : (restoreDefaultDutyCycle v s).pwmCfg = s.pwmCfg := rfl
@[simp] theorem restoreDefaultDutyCycle_pcnt (v : Byte) (s : State) : (restoreDefaultDutyCycle v s).pcnt = s.pcnt := rfl
@[simp] theorem restoreDefaultDutyCycle_psnap (v : Byte) (s : State) : (restoreDefaultDutyCycle v s).psnap = s.psnap := rfl
@[simp] theorem restoreDefaultDutyCycle_levels (v : Byte) (s : State) : (restoreDefaultDutyCycle v s).levels = s.levels := rfl
@[simp] theorem restoreDefaultDutyCycle_pcie (v : Byte) (s : State) : (restoreDefaultDutyCycle v s).pcie = s.pcie := rfl
@[simp] theorem restoreDefaultDutyCycle_tickArmed (v : Byte) (s : State) : (restoreDefaultDutyCycle v s).tickArmed = s.tickArmed := rfl
@[simp] theorem restoreDefaultDutyCycle_silence (v : Byte) (s : State) : (restoreDefaultDutyCycle v s).silence = s.silence := rfl
@[simp] theorem restoreDefaultDutyCycle_scratch (v : Byte) (s : State) : (restoreDefaultDutyCycle v s).scratch = s.scratch := rfl
@[simp] theorem restoreDefaultDutyCycle_ctl (v : Byte) (s : State) : (restoreDefaultDutyCycle v s).ctl = s.ctl := rfl
@[simp] theorem restoreDefaultDutyCycle_mainOp (v : Byte) (s : State) : (restoreDefaultDutyCycle v s).mainOp = s.mainOp := rfl
@[simp] theorem restoreDefaultDutyCycle_tick (v : Byte) (s : State) : (restoreDefaultDutyCycle v s).tick = s.tick := rfl
@[simp] theorem restoreDefaultDutyCycle_ie (v : Byte) (s : State) : (restoreDefaultDutyCycle v s).ie = s.ie := rfl
@[simp] theorem restoreDefaultDutyCycle_refused (v : Byte) (s : State) : (restoreDefaultDutyCycle v s).refused = s.refused := rfl
@[simp] theorem restoreDefaultDutyCycle_boot (v : Byte) (s : State) : (restoreDefaultDutyCycle v s).boot = s.boot := rfl
@[simp] theorem restoreDefaultDutyCycle_trace (v : Byte) (s : State) : (restoreDefaultDutyCycle v s).trace = s.trace := rfl
@[simp] theorem restoreDefaultDutyCycle_inbox (v : Byte) (s : State) : (restoreDefaultDutyCycle v s).inbox = s.inbox := rfl
@[simp] theorem restoreDefaultDutyCycle_draws (v : Byte) (s : State) : (restoreDefaultDutyCycle v s).draws = s.draws := rfl

/-! ### configureTacho lv s -/

@[simp] theorem configureTacho_duty (lv : Levels) (s : State) : (configureTacho lv s).duty = s.duty := rfl
@[simp] theorem configureTacho_pwmCfg (lv : Levels) (s : State) : (configureTacho lv s).pwmCfg = s.pwmCfg := rfl
@[simp] theorem configureTacho_pcnt (lv : Levels) (s : State) : (configureTacho lv s).pcnt = s.pcnt := rfl
@[simp] theorem configureTacho_psnap (lv : Levels) (s : State) : (configureTacho lv s).psnap = s.psnap := rfl
@[simp] theorem configureTacho_levels (lv : Levels) (s : State) : (configureTacho lv s).levels = lv := rfl
@[simp] theorem configureTacho_pcie (lv : Levels) (s : State) : (configureTacho lv s).pcie = true := rfl
@[simp] theorem configureTacho_tickArmed (lv : Levels) (s : State) : (configureTacho lv s).tickArmed = true := rfl
@[simp] theorem configureTacho_silence (lv : Levels) (s : State) : (configureTacho lv s).silence = s.silence := rfl
@[simp] theorem configureTacho_scratch (lv : Levels) (s : State) : (configureTacho lv s).scratch = s.scratch := rfl
@[simp] theorem configureTacho_ctl (lv : Levels) (s : State) : (configureTacho lv s).ctl = s.ctl := rfl
@[simp] theorem configureTacho_mainOp (lv : Levels) (s : State) : (configureTacho lv s).mainOp = s.mainOp := rfl
@[simp] theorem configureTacho_tick (lv : Levels) (s : State) : (configureTacho lv s).tick = s.tick := rfl
@[simp] theorem configureTacho_ie (lv : Levels) (s : State) : (configureTacho lv s).ie = s.ie := rfl
@[simp] theorem configureTacho_refused (lv : Levels) (s : State) : (configureTacho lv s).refused = s.refused := rfl
@[simp] theorem configureTacho_boot (lv : Levels) (s : State) : (configureTacho lv s).boot = s.boot := rfl
@[simp] theorem configureTacho_trace (lv : Levels) (s : State) : (configureTacho lv s).trace = s.trace := rfl
@[simp] theorem configureTacho_inbox (lv : Levels) (s : State) : (configureTacho lv s).inbox = s.inbox := rfl
@[simp] theorem configureTacho_draws (lv : Levels) (s : State) : (configureTacho lv s).draws = s.draws := rfl

/-! ### samplePins lv s -/

@[simp] theorem samplePins_duty (lv : Levels) (s : State) : (samplePins lv s).duty = s.duty := rfl
@[simp] theorem samplePins_pwmCfg (lv : Levels) (s : State) : (samplePins lv s).pwmCfg = s.pwmCfg := rfl
@[simp] theorem samplePins_pcnt (lv : Levels) (s : State) : (samplePins lv s).pcnt = countEdges (risingEdges lv s.levels) s.pcnt := rfl
@[simp] theorem samplePins_psnap (lv : Levels) (s : State) : (samplePins lv s).psnap = s.psnap := rfl
@[simp] theorem samplePins_levels (lv : Levels) (s : State) : (samplePins lv s).levels = lv := rfl
@[simp] theorem samplePins_pcie (lv : Levels) (s : State) : (samplePins lv s).pcie = s.pcie := rfl
@[simp] theorem samplePins_tickArmed (lv : Levels) (s : State) : (samplePins lv s).tickArmed = s.tickArmed := rfl
@[simp] theorem samplePins_silence (lv : Levels) (s : State) : (samplePins lv s).silence = s.silence := rfl
@[simp] theorem samplePins_scratch (lv : Levels) (s : State) : (samplePins lv s).scratch = s.scratch := rfl
@[simp] theorem samplePins_ctl (lv : Levels) (s : State) : (samplePins lv s).ctl = s.ctl := rfl
@[simp] theorem samplePins_mainOp (lv : Levels) (s : State) : (samplePins lv s).mainOp = s.mainOp := rfl
@[simp] theorem samplePins_tick (lv : Levels) (s : State) : (samplePins lv s).tick = s.tick := rfl
@[simp] theorem samplePins_ie (lv : Levels) (s : State) : (samplePins lv s).ie = s.ie := rfl
@[simp] theorem samplePins_refused (lv : Levels) (s : State) : (samplePins lv s).refused = s.refused := rfl
@[simp] theorem samplePins_boot (lv : Levels) (s : State) : (samplePins lv s).boot = s.boot := rfl
@[simp] theorem samplePins_trace (lv : Levels) (s : State) : (samplePins lv s).trace = s.trace := rfl
@[simp] theorem samplePins_inbox (lv : Levels) (s : State) : (samplePins lv s).inbox = s.inbox := rfl
@[simp] theorem samplePins_draws (lv : Levels) (s : State) : (samplePins lv s).draws = s.draws := rfl

/-! ### kickSilence s -/

@[simp] theorem kickSilence_duty (s : State) : (kickSilence s).duty = s.duty := rfl
@[simp] theorem kickSilence_pwmCfg (s : State) : (kickSilence s).pwmCfg = s.pwmCfg := rfl
@[simp] theorem kickSilence_pcnt (s : State) : (kickSilence s).pcnt = s.pcnt := rfl
@[simp] theorem kickSilence_psnap (s : State) : (kickSilence s).psnap = s.psnap := rfl
@[simp] theorem kickSilence_levels (s : State) : (kickSilence s).levels = s.levels := rfl
@[simp] theorem kickSilence_pcie (s : State) : (kickSilence s).pcie = s.pcie := rfl
@[simp] theorem kickSilence_tickArmed (s : State) : (kickSilence s).tickArmed = s.tickArmed := rfl
@[simp] theorem kickSilence_silence (s : State) : (kickSilence s).silence = 0#8 := rfl
@[simp] theorem kickSilence_scratch (s : State) : (kickSilence s).scratch = s.scratch := rfl
@[simp] theorem kickSilence_ctl (s : State) : (kickSilence s).ctl = s.ctl := rfl
@[simp] theorem kickSilence_mainOp (s : State) : (kickSilence s).mainOp = s.mainOp := rfl
@[simp] theorem kickSilence_tick (s : State) : (kickSilence s).tick = s.tick := rfl
@[simp] theorem kickSilence_ie (s : State) : (kickSilence s).ie = s.ie := rfl
@[simp] theorem kickSilence_refused (s : State) : (kickSilence s).refused = s.refused := rfl
@[simp] theorem kickSilence_boot (s : State) : (kickSilence s).boot = s.boot := rfl
@[simp] theorem kickSilence_trace (s : State) : (kickSilence s).trace = s.trace := rfl
@[simp] theorem kickSilence_inbox (s : State) : (kickSilence s).inbox = s.inbox := rfl
@[simp] theorem kickSilence_draws (s : State) : (kickSilence s).draws = s.draws := rfl

/-! ### enableInterrupts s -/

@[simp] theorem enableInterrupts_duty (s : State) : (enableInterrupts s).duty = s.duty := rfl
@[simp] theorem enableInterrupts_pwmCfg (s : State) : (enableInterrupts s).pwmCfg = s.pwmCfg := rfl
@[simp] theorem enableInterrupts_pcnt (s : State) : (enableInterrupts s).pcnt = s.pcnt := rfl
@[simp] theorem enableInterrupts_psnap (s : State) : (enableInterrupts s).psnap = s.psnap := rfl
@[simp] theorem enableInterrupts_levels (s : State) : (enableInterrupts s).levels = s.levels := rfl
@[simp] theorem enableInterrupts_pcie (s : State) : (enableInterrupts s).pcie = s.pcie := rfl
@[simp] theorem enableInterrupts_tickArmed (s : State) : (enableInterrupts s).tickArmed = s.tickArmed := rfl
@[simp] theorem enableInterrupts_silence (s : State) : (enableInterrupts s).silence = s.silence := rfl
@[simp] theorem enableInterrupts_scratch (s : State) : (enableInterrupts s).scratch = s.scratch := rfl
@[simp] theorem enableInterrupts_ctl (s : State) : (enableInterrupts s).ctl = s.ctl := rfl
@[simp] theorem enableInterrupts_mainOp (s : State) : (enableInterrupts s).mainOp = s.mainOp := rfl
@[simp] theorem enableInterrupts_tick (s : State) : (enableInterrupts s).tick = s.tick := rfl
@[simp] theorem enableInterrupts_ie (s : State) : (enableInterrupts s).ie = true := rfl
@[simp] theorem enableInterrupts_refused (s : State) : (enableInterrupts s).refused = s.refused := rfl
@[simp] theorem enableInterrupts_boot (s : State) : (enableInterrupts s).boot = s.boot := rfl
@[simp] theorem enableInterrupts_trace (s : State) : (enableInterrupts s).trace = s.trace := rfl
@[simp] theorem enableInterrupts_inbox (s : State) : (enableInterrupts s).inbox = s.inbox := rfl
@[simp] theorem enableInterrupts_draws (s : State) : (enableInterrupts s).draws = s.draws := rfl

/-! ### enterPollLoop s -/

@[simp] theorem enterPollLoop_duty (s : State) : (enterPollLoop s).duty = s.duty := rfl
@[simp] theorem enterPollLoop_pwmCfg (s : State) : (enterPollLoop s).pwmCfg = s.pwmCfg := rfl
@[simp] theorem enterPollLoop_pcnt (s : State) : (enterPollLoop s).pcnt = s.pcnt := rfl
@[simp] theorem enterPollLoop_psnap (s : State) : (enterPollLoop s).psnap = s.psnap := rfl
@[simp] theorem enterPollLoop_levels (s : State) : (enterPollLoop s).levels = s.levels := rfl
@[simp] theorem enterPollLoop_pcie (s : State) : (enterPollLoop s).pcie = s.pcie := rfl
@[simp] theorem enterPollLoop_tickArmed (s : State) : (enterPollLoop s).tickArmed = s.tickArmed := rfl
@[simp] theorem enterPollLoop_silence (s : State) : (enterPollLoop s).silence = s.silence := rfl
@[simp] theorem enterPollLoop_scratch (s : State) : (enterPollLoop s).scratch = s.scratch := rfl
@[simp] theorem enterPollLoop_ctl (s : State) : (enterPollLoop s).ctl = s.ctl := rfl
@[simp] theorem enterPollLoop_mainOp (s : State) : (enterPollLoop s).mainOp = s.mainOp := rfl
@[simp] theorem enterPollLoop_tick (s : State) : (enterPollLoop s).tick = s.tick := rfl
@[simp] theorem enterPollLoop_ie (s : State) : (enterPollLoop s).ie = s.ie := rfl
@[simp] theorem enterPollLoop_refused (s : State) : (enterPollLoop s).refused = s.refused := rfl
@[simp] theorem enterPollLoop_boot (s : State) : (enterPollLoop s).boot = .run := rfl
@[simp] theorem enterPollLoop_trace (s : State) : (enterPollLoop s).trace = s.trace := rfl
@[simp] theorem enterPollLoop_inbox (s : State) : (enterPollLoop s).inbox = s.inbox := rfl
@[simp] theorem enterPollLoop_draws (s : State) : (enterPollLoop s).draws = s.draws := rfl

/-! ### resetBlock d l c s -/

@[simp] theorem resetBlock_duty (d : Bank) (l : Levels) (c : Bank) (s : State) : (resetBlock d l c s).duty = d := rfl
@[simp] theorem resetBlock_pwmCfg (d : Bank) (l : Levels) (c : Bank) (s : State) : (resetBlock d l c s).pwmCfg = false := rfl
@[simp] theorem resetBlock_pcnt (d : Bank) (l : Levels) (c : Bank) (s : State) : (resetBlock d l c s).pcnt = zeroBank := rfl
@[simp] theorem resetBlock_psnap (d : Bank) (l : Levels) (c : Bank) (s : State) : (resetBlock d l c s).psnap = zeroBank := rfl
@[simp] theorem resetBlock_levels (d : Bank) (l : Levels) (c : Bank) (s : State) : (resetBlock d l c s).levels = l := rfl
@[simp] theorem resetBlock_pcie (d : Bank) (l : Levels) (c : Bank) (s : State) : (resetBlock d l c s).pcie = false := rfl
@[simp] theorem resetBlock_tickArmed (d : Bank) (l : Levels) (c : Bank) (s : State) : (resetBlock d l c s).tickArmed = false := rfl
@[simp] theorem resetBlock_silence (d : Bank) (l : Levels) (c : Bank) (s : State) : (resetBlock d l c s).silence = 0#8 := rfl
@[simp] theorem resetBlock_scratch (d : Bank) (l : Levels) (c : Bank) (s : State) : (resetBlock d l c s).scratch = c := rfl
@[simp] theorem resetBlock_ctl (d : Bank) (l : Levels) (c : Bank) (s : State) : (resetBlock d l c s).ctl = .idle := rfl
@[simp] theorem resetBlock_mainOp (d : Bank) (l : Levels) (c : Bank) (s : State) : (resetBlock d l c s).mainOp = .none := rfl
@[simp] theorem resetBlock_tick (d : Bank) (l : Levels) (c : Bank) (s : State) : (resetBlock d l c s).tick = .idle := rfl
@[simp] theorem resetBlock_ie (d : Bank) (l : Levels) (c : Bank) (s : State) : (resetBlock d l c s).ie = false := rfl
@[simp] theorem resetBlock_refused (d : Bank) (l : Levels) (c : Bank) (s : State) : (resetBlock d l c s).refused = s.refused := rfl
@[simp] theorem resetBlock_boot (d : Bank) (l : Levels) (c : Bank) (s : State) : (resetBlock d l c s).boot = .reset := rfl
@[simp] theorem resetBlock_trace (d : Bank) (l : Levels) (c : Bank) (s : State) : (resetBlock d l c s).trace = s.trace := rfl
@[simp] theorem resetBlock_inbox (d : Bank) (l : Levels) (c : Bank) (s : State) : (resetBlock d l c s).inbox = s.inbox := rfl
@[simp] theorem resetBlock_draws (d : Bank) (l : Levels) (c : Bank) (s : State) : (resetBlock d l c s).draws = s.draws := rfl

end Sys2Proof.Machine
end

