-- ==== Sys2Proof/Laws/Ops.lean ====
section
/-! SUPPORT. What each shared operation can do, said once: enabled steps, banks, channel sets, byte spaces. -/

namespace Sys2Proof.Machine

/-! ### A step that is enabled or not -/

theorem stepWhen_eq_next {ready : Bool} {why : Fault} {t u : State} :
    stepWhen ready why t = .next u ↔ ready = true ∧ t = u := by
  cases ready <;> simp [stepWhen]

theorem stepWhen_eq_fault {ready : Bool} {why f : Fault} {t : State} :
    stepWhen ready why t = .fault f ↔ ready = false ∧ why = f := by
  cases ready <;> simp [stepWhen]

theorem stepWhen_never_refused {ready : Bool} {why : Fault} {t : State} {r : Refusal} :
    stepWhen ready why t ≠ .refused r := by
  cases ready <;> simp [stepWhen]

theorem stepWith_eq_next {α : Type} {ready : Option α} {why : Fault} {f : α → State} {u : State} :
    stepWith ready why f = .next u ↔ ∃ a, ready = some a ∧ f a = u := by
  cases ready <;> simp [stepWith]

theorem stepWith_eq_fault {α : Type} {ready : Option α} {why g : Fault} {f : α → State} :
    stepWith ready why f = .fault g ↔ ready = none ∧ why = g := by
  cases ready <;> simp [stepWith]

theorem stepWith_never_refused {α : Type} {ready : Option α} {why : Fault} {f : α → State} {r : Refusal} :
    stepWith ready why f ≠ .refused r := by
  cases ready <;> simp [stepWith]

/-! ### The enabling rules -/

theorem hostReady_iff {s : State} :
    hostReady s = true ↔ s.boot = .run ∧ s.mainOp = .none ∧ s.tick = .idle := by
  simp [hostReady, and_assoc]

theorem bootReady_iff {s : State} : bootReady s = true ↔ s.boot = .reset := by
  simp [bootReady]

theorem tickWdReady_iff {s : State} : tickWdReady s = true ↔ s.tick = .wd := by
  simp [tickWdReady]

theorem canTake_pinChange_iff {s : State} :
    canTake .pinChange s = true ↔ s.boot = .run ∧ s.ie = true ∧ s.pcie = true := by
  simp [canTake, sourceEnabled, mayNest, and_assoc]

theorem canTake_tick_iff {s : State} :
    canTake .tick s = true ↔ s.boot = .run ∧ s.ie = true ∧ s.tickArmed = true ∧ s.tick = .idle := by
  simp [canTake, sourceEnabled, mayNest, and_assoc]

theorem gsCopyReady_eq_some {s : State} {a : Channel × Fin 5} :
    gsCopyReady s = some a ↔ s.mainOp = .gsCopy a.1 a.2 ∧ s.tick = .idle := by
  obtain ⟨k, len⟩ := a
  cases h : s.mainOp <;> simp [gsCopyReady, h, and_comm]

theorem ssResetReady_eq_some {s : State} {b : Bank} :
    ssResetReady s = some b ↔ s.mainOp = .ssReset b ∧ s.tick = .idle := by
  cases h : s.mainOp <;> simp [ssResetReady, h, and_comm]

theorem ssWriteReady_eq_some {s : State} {a : Channel × Bank} :
    ssWriteReady s = some a ↔ s.mainOp = .ssWrite a.1 a.2 ∧ s.tick = .idle := by
  obtain ⟨k, b⟩ := a
  cases h : s.mainOp <;> simp [ssWriteReady, h, and_comm]

theorem tickCopyReady_eq_some {k : Channel} {s : State} {done : ChannelSet} :
    tickCopyReady k s = some done ↔ s.tick = .copy done ∧ hasChannel done k = false := by
  cases h : s.tick <;> simp [tickCopyReady, h]
  exact ⟨fun ⟨hc, he⟩ => he ▸ ⟨rfl, hc⟩, fun ⟨he, hc⟩ => ⟨he ▸ hc, he⟩⟩

theorem tickClearReady_eq_some {k : Channel} {s : State} {done : ChannelSet} :
    tickClearReady k s = some done ↔ s.tick = .clear done ∧ hasChannel done k = false := by
  cases h : s.tick <;> simp [tickClearReady, h]
  exact ⟨fun ⟨hc, he⟩ => he ▸ ⟨rfl, hc⟩, fun ⟨he, hc⟩ => ⟨he ▸ hc, he⟩⟩

end Sys2Proof.Machine

namespace Sys2Proof

/-! ### Banks and channel sets -/

theorem Bank.ext_get {a b : Bank} (h : ∀ k, a.get k = b.get k) : a = b := by
  cases a; cases b
  simpa [Bank.get] using And.intro (h 0) (And.intro (h 1) (And.intro (h 2) (h 3)))

@[simp] theorem Bank.get_set_self (b : Bank) (k : Channel) (v : Byte) : (b.set k v).get k = v := by
  fin_cases k <;> rfl

theorem Bank.get_set_of_ne {b : Bank} {k j : Channel} {v : Byte} (h : j ≠ k) : (b.set k v).get j = b.get j := by
  fin_cases k <;> fin_cases j <;> first | rfl | exact absurd rfl h

theorem Bank.get_set (b : Bank) (k j : Channel) (v : Byte) :
    (b.set k v).get j = if j = k then v else b.get j := by
  split
  · subst_vars; simp
  · exact Bank.get_set_of_ne ‹_›

@[simp] theorem Bank.get_ofFn (f : Channel → Byte) (k : Channel) : (Bank.ofFn f).get k = f k := by
  fin_cases k <;> rfl

@[simp] theorem Bank.get_fill (v : Byte) (k : Channel) : (Bank.fill v).get k = v := by
  simp [Bank.fill]

@[simp] theorem hasChannel_addChannel_self (done : ChannelSet) (k : Channel) :
    hasChannel (addChannel done k) k = true := by
  revert done k; decide

theorem hasChannel_addChannel (done : ChannelSet) (k j : Channel) :
    hasChannel (addChannel done k) j = (hasChannel done j || decide (j = k)) := by
  revert done k j; decide

@[simp] theorem hasChannel_noChannels (k : Channel) : hasChannel noChannels k = false := by
  revert k; decide

@[simp] theorem hasChannel_allChannels (k : Channel) : hasChannel allChannels k = true := by
  revert k; decide

theorem eq_allChannels_iff (done : ChannelSet) : done = allChannels ↔ ∀ k, hasChannel done k = true := by
  revert done; decide

/-- The rising-edge formula of R89, channel by channel. -/
theorem hasChannel_risingEdges (lv levels : Levels) (k : Channel) :
    hasChannel (risingEdges lv levels) k = (lv.getLsbD k.val && !levels.getLsbD k.val) := by
  revert lv levels k; decide

theorem countEdges_get (rise : ChannelSet) (pcnt : Bank) (k : Channel) :
    (countEdges rise pcnt).get k = if hasChannel rise k then pcnt.get k + 1#8 else pcnt.get k := by
  simp [countEdges]

theorem responseLength_val (wLength : Word16) : (responseLength wLength).val = min 4 wLength.toNat := by
  unfold responseLength
  split <;> [skip; split <;> [skip; split <;> [skip; split]]] <;> simp_all
  bv_omega

namespace Machine

/-! ### Byte spaces -/

@[simp] theorem memRead_memWrite_self (sp : Space) (k : Channel) (v : Byte) (s : State) :
    memRead sp k (memWrite sp k v s) = v := by
  cases sp <;> simp [memRead, memWrite]

theorem memRead_memWrite_other {sp sp' : Space} {k j : Channel} {v : Byte} {s : State}
    (h : sp' ≠ sp ∨ j ≠ k) : memRead sp' j (memWrite sp k v s) = memRead sp' j s := by
  cases sp <;> cases sp' <;> simp_all [memRead, memWrite, Bank.get_set_of_ne]

/-! ### The silence count -/

/-- What `countSilence` can do (R100): it restores every duty and clears the count, or counts one tick. -/
theorem countSilence_cases (bound : Nat) (dflt : Byte) (s : State) :
    ((s.silence + 1#8).toNat > bound ∧
      countSilence bound dflt s = { s with duty := Bank.fill dflt, silence := 0#8 }) ∨
    ((s.silence + 1#8).toNat ≤ bound ∧
      countSilence bound dflt s = { s with silence := s.silence + 1#8 }) := by
  by_cases h : (s.silence + 1#8).toNat > bound
  · exact .inl ⟨h, by simp only [countSilence, h, if_true]; rfl⟩
  · exact .inr ⟨by omega, by simp only [countSilence, h, if_false]⟩

end Machine

end Sys2Proof
end

