-- ==== Sys2Proof/Laws/Exec.lean ====
section
/-! SUPPORT. Each arm of exec as the one shared form it has: an enabling rule and a next state; and what no event can do. -/

namespace Sys2Proof.Machine

variable (s : State)

theorem exec_standard (req : Byte) (h : Header) :
    exec (.standard req h) s = stepWhen (hostReady s) .hostEventNotEnabled s := rfl

theorem exec_setSpeed (h : Header) :
    exec (.setSpeed h) s = stepWhen (hostReady s) .hostEventNotEnabled (setSpeedSetup h s) := rfl

theorem exec_getSpeed (h : Header) :
    exec (.getSpeed h) s = stepWhen (hostReady s) .hostEventNotEnabled (getSpeedSetup h s) := rfl

theorem exec_getTacho (h : Header) :
    exec (.getTacho h) s = stepWhen (hostReady s) .hostEventNotEnabled (getTachoSetup h s) := rfl

theorem exec_vendorOther (req : Byte) (h : Header) :
    exec (.vendorOther req h) s = stepWhen (hostReady s) .hostEventNotEnabled (defaultSetup s) := rfl

theorem exec_classType (req : Byte) (h : Header) :
    exec (.classType req h) s = stepWhen (hostReady s) .hostEventNotEnabled (defaultSetup s) := rfl

theorem exec_reservedType (req : Byte) (h : Header) :
    exec (.reservedType req h) s = stepWhen (hostReady s) .hostEventNotEnabled (defaultSetup s) := rfl

theorem exec_boot (lv0 : Levels) :
    exec (.boot lv0) s = stepWhen (bootReady s) .bootNotEnabled (bootSequence Config.defaultDuty lv0 s) := rfl

theorem exec_data (bytes : List Byte) :
    exec (.data bytes) s = stepWhen (hostReady s) .hostEventNotEnabled (dataStage bytes s) := rfl

theorem exec_inRead :
    exec .inRead s = stepWhen (hostReady s) .hostEventNotEnabled (readResponse s) := rfl

theorem exec_busReset :
    exec .busReset s = stepWhen (hostReady s) .hostEventNotEnabled { s with ctl := .idle } := rfl

theorem exec_gsCopy :
    exec .gsCopy s = stepWith (gsCopyReady s) .gsCopyNotEnabled (copyDutyByte s) := rfl

theorem exec_ssReset :
    exec .ssReset s = stepWith (ssResetReady s) .ssResetNotEnabled (startWrites s) := rfl

theorem exec_ssWrite :
    exec .ssWrite s = stepWith (ssWriteReady s) .ssWriteNotEnabled (writeDutyByte s) := rfl

theorem exec_pinChange (lv : Levels) :
    exec (.pinChange lv) s = stepWhen (canTake .pinChange s) .pinChangeNotEnabled (samplePins lv s) := rfl

theorem exec_tickEnter :
    exec .tickEnter s = stepWhen (canTake .tick s) .tickEnterNotEnabled (enterInterrupt .tick s) := rfl

theorem exec_tickCopy (k : Channel) :
    exec (.tickCopy k) s = stepWith (tickCopyReady k s) .tickCopyNotEnabled (copyChannel k s) := rfl

theorem exec_tickClear (k : Channel) :
    exec (.tickClear k) s = stepWith (tickClearReady k s) .tickClearNotEnabled (clearChannel k s) := rfl

theorem exec_tickWd :
    exec .tickWd s = stepWhen (tickWdReady s) .tickWdNotEnabled
      (returnFromInterrupt .tick (countSilence Config.silenceBound.val Config.defaultDuty s)) := rfl

/-- What a delivered setup packet changes: the state its class gives, or no step (R110). -/
def setupResult : Request → State → State
  | .standard _ _, s => s
  | .setSpeed h, s => setSpeedSetup h s
  | .getSpeed h, s => getSpeedSetup h s
  | .getTacho h, s => getTachoSetup h s
  | .vendorOther _ _, s => defaultSetup s
  | .classType _ _, s => defaultSetup s
  | .reservedType _ _, s => defaultSetup s

theorem exec_request (r : Request) :
    exec r.toInstr s = stepWhen (hostReady s) .hostEventNotEnabled (setupResult r s) := by
  cases r <;> rfl

theorem execSetup_eq (p : SetupPacket) :
    exec (.setup p) s = stepWhen (hostReady s) .hostEventNotEnabled (setupResult (decodeRequest p) s) := by
  simp only [exec, execSetup]
  cases decodeRequest p <;> rfl

/-- No event is refused by the model: the spec's refusals set the mark (R9, R37). -/
theorem exec_never_refused (i : Instr) (r : Refusal) : exec i s ≠ .refused r := by
  cases i <;> first
    | exact stepWhen_never_refused
    | exact stepWith_never_refused
    | (rw [execSetup_eq]; exact stepWhen_never_refused)
    | (intro h; cases h)

/-! ### What the larger operations can do -/

theorem setSpeedSetup_cases (h : Header) :
    (h.dir = .hostToDevice ∧ h.wLength = 4#16 ∧
      setSpeedSetup h s = { s with ctl := .outWait, trace := s.trace ++ [.awaitOut] }) ∨
    (h.dir = .hostToDevice ∧ h.wLength ≠ 4#16 ∧ setSpeedSetup h s = { s with refused := some .setLen }) ∨
    (h.dir = .deviceToHost ∧ setSpeedSetup h s = { s with refused := some .dirMismatch }) := by
  obtain ⟨d, _, _, _, l⟩ := h
  cases d <;> by_cases hl : l = 4#16 <;> simp [setSpeedSetup, hl, emit, raiseRefused]

theorem getSpeedSetup_cases (h : Header) :
    (h.dir = .deviceToHost ∧
      getSpeedSetup h s = { s with ctl := .idle, mainOp := .gsCopy 0 (responseLength h.wLength) }) ∨
    (h.dir = .hostToDevice ∧ getSpeedSetup h s = { s with refused := some .dirMismatch }) := by
  obtain ⟨d, _, _, _, _⟩ := h
  cases d <;> simp [getSpeedSetup, raiseRefused]

theorem getTachoSetup_cases (h : Header) :
    (h.dir = .deviceToHost ∧ getTachoSetup h s = designate .snap (responseLength h.wLength) s) ∨
    (h.dir = .hostToDevice ∧ getTachoSetup h s = { s with refused := some .dirMismatch }) := by
  obtain ⟨d, _, _, _, _⟩ := h
  cases d <;> simp [getTachoSetup, raiseRefused]

/-- A delivered packet changes nothing, or the mark alone, or `ctl` and the trace, or starts the GET_SPEED copy. -/
theorem setupResult_cases (r : Request) :
    setupResult r s = s ∨
    (∃ why, setupResult r s = { s with refused := some why }) ∨
    (∃ c x, setupResult r s = { s with ctl := c, trace := s.trace ++ [x] }) ∨
    (∃ len, setupResult r s = { s with ctl := .idle, mainOp := .gsCopy 0 len }) := by
  cases r with
  | standard => exact .inl rfl
  | setSpeed h =>
    obtain ⟨-, -, e⟩ | ⟨-, -, e⟩ | ⟨-, e⟩ := setSpeedSetup_cases s h
    · exact .inr (.inr (.inl ⟨_, _, e⟩))
    · exact .inr (.inl ⟨_, e⟩)
    · exact .inr (.inl ⟨_, e⟩)
  | getSpeed h =>
    obtain ⟨-, e⟩ | ⟨-, e⟩ := getSpeedSetup_cases s h
    · exact .inr (.inr (.inr ⟨_, e⟩))
    · exact .inr (.inl ⟨_, e⟩)
  | getTacho h =>
    obtain ⟨-, e⟩ | ⟨-, e⟩ := getTachoSetup_cases s h
    · exact .inr (.inr (.inl ⟨_, _, e⟩))
    · exact .inr (.inl ⟨_, e⟩)
  | vendorOther => exact .inr (.inr (.inl ⟨_, _, rfl⟩))
  | classType => exact .inr (.inr (.inl ⟨_, _, rfl⟩))
  | reservedType => exact .inr (.inr (.inl ⟨_, _, rfl⟩))

/-- A data stage is discarded, refused, or starts the writes (R112, R115). -/
theorem dataStage_cases (bytes : List Byte) :
    (s.ctl ≠ .outWait ∧ dataStage bytes s = s) ∨
    (s.ctl = .outWait ∧ bytes.length ≠ 4 ∧ dataStage bytes s = { s with refused := some .setLen }) ∨
    (∃ h0 h1 h2 h3, s.ctl = .outWait ∧ bytes = [h0, h1, h2, h3] ∧
      dataStage bytes s = { s with ctl := .idle, mainOp := .ssReset ⟨h0, h1, h2, h3⟩ }) := by
  cases hc : s.ctl with
  | idle => exact .inl ⟨by simp, by simp [dataStage, hc]⟩
  | inResp => exact .inl ⟨by simp, by simp [dataStage, hc]⟩
  | outWait =>
    match bytes with
    | [h0, h1, h2, h3] => exact .inr (.inr ⟨h0, h1, h2, h3, rfl, rfl, by simp [dataStage, hc, payloadOf]⟩)
    | [] | [_] | [_, _] | [_, _, _] | _ :: _ :: _ :: _ :: _ :: _ =>
      exact .inr (.inl ⟨rfl, by simp, by simp [dataStage, hc, payloadOf, raiseRefused]⟩)

/-- A read delivers the designated byte, or is refused (R119, R120). -/
theorem readResponse_cases :
    (∃ src len sent, s.ctl = .inResp src len sent ∧
      readResponse s = { s with
        trace := s.trace ++ [.byte (memRead (sourceSpace src) sent s)]
        ctl := if sent.val + 1 = len.val then .idle else .inResp src len (sent + 1) }) ∨
    ((s.ctl = .idle ∨ s.ctl = .outWait) ∧ readResponse s = { s with refused := some .inNoData }) := by
  cases hc : s.ctl with
  | inResp src len sent => exact .inl ⟨src, len, sent, rfl, by simp [readResponse, hc, emit]⟩
  | idle => exact .inr ⟨.inl rfl, by simp [readResponse, hc, raiseRefused]⟩
  | outWait => exact .inr ⟨.inr rfl, by simp [readResponse, hc, raiseRefused]⟩

/-- A copy moves one byte into `scratch`, and goes on or designates the response (R117). -/
theorem copyDutyByte_cases (k : Channel) (len : Fin 5) :
    (k.val < 3 ∧ copyDutyByte s (k, len) = { s with
      scratch := s.scratch.set k (s.duty.get k), mainOp := .gsCopy (k + 1) len }) ∨
    (k = 3 ∧ copyDutyByte s (k, len) = { s with
      scratch := s.scratch.set k (s.duty.get k), mainOp := .none, trace := s.trace ++ [.resp len]
      ctl := if len = 0 then .idle else .inResp .scratch len 0 }) := by
  fin_cases k <;> simp [copyDutyByte, designate, emit, memWrite, getDutyCycle, memRead]

/-- Everything an event can do when it answers a next state: what enabled it, and the state it gives. -/
def Effect (i : Instr) (s t : State) : Prop :=
  match i with
  | .standard _ _ => hostReady s = true ∧ t = s
  | .setSpeed h => hostReady s = true ∧ t = setSpeedSetup h s
  | .getSpeed h => hostReady s = true ∧ t = getSpeedSetup h s
  | .getTacho h => hostReady s = true ∧ t = getTachoSetup h s
  | .vendorOther _ _ => hostReady s = true ∧ t = defaultSetup s
  | .classType _ _ => hostReady s = true ∧ t = defaultSetup s
  | .reservedType _ _ => hostReady s = true ∧ t = defaultSetup s
  | .reset => exec .reset s = .next t
  | .boot lv0 => s.boot = .reset ∧ t = bootSequence Config.defaultDuty lv0 s
  | .setup pkt => hostReady s = true ∧ t = setupResult (decodeRequest pkt) s
  | .data bytes => hostReady s = true ∧ t = dataStage bytes s
  | .inRead => hostReady s = true ∧ t = readResponse s
  | .busReset => hostReady s = true ∧ t = { s with ctl := .idle }
  | .gsCopy => ∃ k len, s.mainOp = .gsCopy k len ∧ s.tick = .idle ∧ t = copyDutyByte s (k, len)
  | .ssReset => ∃ b, s.mainOp = .ssReset b ∧ s.tick = .idle ∧ t = startWrites s b
  | .ssWrite => ∃ k b, s.mainOp = .ssWrite k b ∧ s.tick = .idle ∧ t = writeDutyByte s (k, b)
  | .pinChange lv => canTake .pinChange s = true ∧ t = samplePins lv s
  | .tickEnter => canTake .tick s = true ∧ t = { s with tick := .copy noChannels }
  | .tickCopy k => ∃ done, s.tick = .copy done ∧ hasChannel done k = false ∧ t = copyChannel k s done
  | .tickClear k => ∃ done, s.tick = .clear done ∧ hasChannel done k = false ∧ t = clearChannel k s done
  | .tickWd => s.tick = .wd ∧
      t = { countSilence Config.silenceBound.val Config.defaultDuty s with tick := .idle }

variable {s}

/-- The inversion of `exec`, for every event at once. -/
theorem effect_of_next {i : Instr} {t : State} (h : exec i s = .next t) : Effect i s t := by
  cases i with
  | reset => exact h
  | boot lv0 => exact (stepWhen_eq_next.1 h).imp bootReady_iff.1 Eq.symm
  | setup p => exact (stepWhen_eq_next.1 (execSetup_eq s p ▸ h)).imp id Eq.symm
  | gsCopy =>
    obtain ⟨⟨k, len⟩, hr, rfl⟩ := stepWith_eq_next.1 h
    exact ⟨k, len, (gsCopyReady_eq_some.1 hr).1, (gsCopyReady_eq_some.1 hr).2, rfl⟩
  | ssReset =>
    obtain ⟨b, hr, rfl⟩ := stepWith_eq_next.1 h
    exact ⟨b, (ssResetReady_eq_some.1 hr).1, (ssResetReady_eq_some.1 hr).2, rfl⟩
  | ssWrite =>
    obtain ⟨⟨k, b⟩, hr, rfl⟩ := stepWith_eq_next.1 h
    exact ⟨k, b, (ssWriteReady_eq_some.1 hr).1, (ssWriteReady_eq_some.1 hr).2, rfl⟩
  | tickCopy k =>
    obtain ⟨done, hr, rfl⟩ := stepWith_eq_next.1 h
    exact ⟨done, (tickCopyReady_eq_some.1 hr).1, (tickCopyReady_eq_some.1 hr).2, rfl⟩
  | tickClear k =>
    obtain ⟨done, hr, rfl⟩ := stepWith_eq_next.1 h
    exact ⟨done, (tickClearReady_eq_some.1 hr).1, (tickClearReady_eq_some.1 hr).2, rfl⟩
  | tickWd => exact (stepWhen_eq_next.1 h).imp tickWdReady_iff.1 Eq.symm
  | _ => exact (stepWhen_eq_next.1 h).imp id Eq.symm

end Sys2Proof.Machine
end

