-- ==== Sys2Proof/Laws/Runs.lean ====
section
/-! SUPPORT. Runs of events: appending, and that a whole tick can always run to its end. -/

namespace Sys2Proof

/-! ### Pseudo-events (R77) -/

@[simp] theorem Pseudo.schedule_of_wellFormed {p : Pseudo} (h : p.WellFormed) (levels : Levels) :
    p.schedule levels = some (p.expand levels) :=
  if_pos h

@[simp] theorem Pseudo.schedule_of_not_wellFormed {p : Pseudo} (h : ¬ p.WellFormed) (levels : Levels) :
    p.schedule levels = none :=
  if_neg h

/-- The pseudo-events VENDOR n of R77 are those whose packet is of class VENDOR_OTHER. -/
theorem Pseudo.vendor_wellFormed_iff (n : Byte) :
    (Pseudo.vendor n).WellFormed ↔ (decodeRequest (plainPacket 0xC0 n 0)).row = 5 := by
  have hkey : (plainPacket 0xC0 n 0).reqType = 2 := show (0xC0#8).extractLsb' 5 2 = 2 by decide
  have hreq : (plainPacket 0xC0 n 0).b1 = n := rfl
  simp only [Pseudo.WellFormed, Pseudo.wellFormed, decodeRequest, hkey, hreq]
  by_cases h1 : n = 1#8 <;> by_cases h2 : n = 2#8 <;> by_cases h3 : n = 3#8 <;> simp [h1, h2, h3, Request.row]

end Sys2Proof

namespace Sys2Proof.Machine

@[simp] theorem runEvents_nil (s : State) : runEvents [] s = .next s := rfl

theorem runEvents_cons_of_next {i : Instr} {is : List Instr} {s t : State} (h : exec i s = .next t) :
    runEvents (i :: is) s = runEvents is t := by
  simp [runEvents, h]

/-- A run of one event more: its first event's next state, then the rest. -/
theorem runEvents_cons_eq_next {i : Instr} {is : List Instr} {s u : State} :
    runEvents (i :: is) s = .next u ↔ ∃ t, exec i s = .next t ∧ runEvents is t = .next u := by
  cases h : exec i s <;> simp [runEvents, h]

theorem runEvents_append {is js : List Instr} {s t : State} (h : runEvents is s = .next t) :
    runEvents (is ++ js) s = runEvents js t := by
  induction is generalizing s with
  | nil => cases h; rfl
  | cons i is ih =>
    obtain ⟨u, hu, ht⟩ := runEvents_cons_eq_next.1 h
    simpa [runEvents_cons_of_next hu] using ih ht

/-- What one event preserves, a run of events preserves. -/
theorem runEvents_preserves {P : State → Prop} {is : List Instr} {s t : State}
    (keep : ∀ i ∈ is, ∀ u v, exec i u = .next v → P u → P v) (hs : P s)
    (h : runEvents is s = .next t) : P t := by
  induction is generalizing s with
  | nil => cases h; exact hs
  | cons i is ih =>
    obtain ⟨u, hu, ht⟩ := runEvents_cons_eq_next.1 h
    exact ih (fun j hj => keep j (List.mem_cons_of_mem _ hj)) (keep i List.mem_cons_self _ _ hu hs) ht

/-- A booted block with no handler running takes a whole tick and is again such a block. -/
theorem tick_completes {s : State}
    (hs : s.boot = .run ∧ s.ie = true ∧ s.tickArmed = true ∧ s.tick = .idle) :
    ∃ t, runEvents tickEvents s = .next t ∧
      t.boot = .run ∧ t.ie = true ∧ t.tickArmed = true ∧ t.tick = .idle := by
  obtain ⟨hb, hi, ha, ht⟩ := hs
  refine ⟨_, by simp [tickEvents, runEvents, exec_tickEnter, stepWhen, canTake_tick_iff.2 ⟨hb, hi, ha, ht⟩,
    exec_tickCopy, exec_tickClear, exec_tickWd, stepWith, tickCopyReady, tickClearReady, copyChannel,
    clearChannel, tickWdReady, hasChannel, addChannel, noChannels, allChannels]; rfl, ?_⟩
  rcases countSilence_cases Config.silenceBound.val Config.defaultDuty
    (clearChannel 3 (clearChannel 2 s noChannels) noChannels) with _ | _ <;>
    simp [countSilence] <;> split <;> simp [hb, hi, ha]

/-- Any number of whole ticks can run. -/
theorem ticks_complete (n : Nat) {s : State}
    (hs : s.boot = .run ∧ s.ie = true ∧ s.tickArmed = true ∧ s.tick = .idle) :
    ∃ t, runEvents (repeatEvents tickEvents n) s = .next t ∧
      t.boot = .run ∧ t.ie = true ∧ t.tickArmed = true ∧ t.tick = .idle := by
  induction n generalizing s with
  | zero => exact ⟨s, rfl, hs⟩
  | succ n ih =>
    obtain ⟨u, hu, hu'⟩ := tick_completes hs
    obtain ⟨t, ht, ht'⟩ := ih hu'
    exact ⟨t, by rw [repeatEvents, runEvents_append hu, ht], ht'⟩

theorem ticksCompleted_append (is js : List Instr) :
    ticksCompleted (is ++ js) = ticksCompleted is + ticksCompleted js := by
  simp [ticksCompleted]

theorem ticksCompleted_repeat (n : Nat) : ticksCompleted (repeatEvents tickEvents n) = n := by
  induction n with
  | zero => rfl
  | succ n ih =>
    rw [repeatEvents, ticksCompleted_append, ih, show ticksCompleted tickEvents = 1 by decide, Nat.add_comm]

end Sys2Proof.Machine
end

