-- ==== Sys2Proof/Laws/Fairness.lean ====
section
/-! SUPPORT. Infinite runs: what one step of them does to the tick handler's phase, and that a fair run's ticks complete. -/

namespace Sys2Proof.Machine

/-! ### What the larger operations leave alone (R125, R134) -/

@[simp] theorem setupResult_duty (r : Request) (s : State) : (setupResult r s).duty = s.duty := by
  rcases setupResult_cases s r with h | ⟨_, h⟩ | ⟨_, _, h⟩ | ⟨_, h⟩ <;> rw [h]

@[simp] theorem dataStage_duty (bytes : List Byte) (s : State) : (dataStage bytes s).duty = s.duty := by
  rcases dataStage_cases s bytes with ⟨-, h⟩ | ⟨-, -, h⟩ | ⟨_, _, _, _, -, -, h⟩ <;> rw [h]

@[simp] theorem readResponse_duty (s : State) : (readResponse s).duty = s.duty := by
  rcases readResponse_cases s with ⟨_, _, _, -, h⟩ | ⟨-, h⟩ <;> rw [h]

@[simp] theorem copyDutyByte_duty (k : Channel) (len : Fin 5) (s : State) : (copyDutyByte s (k, len)).duty = s.duty := by
  rcases copyDutyByte_cases s k len with ⟨-, h⟩ | ⟨-, h⟩ <;> rw [h]

@[simp] theorem setupResult_silence (r : Request) (s : State) : (setupResult r s).silence = s.silence := by
  rcases setupResult_cases s r with h | ⟨_, h⟩ | ⟨_, _, h⟩ | ⟨_, h⟩ <;> rw [h]

@[simp] theorem dataStage_silence (bytes : List Byte) (s : State) : (dataStage bytes s).silence = s.silence := by
  rcases dataStage_cases s bytes with ⟨-, h⟩ | ⟨-, -, h⟩ | ⟨_, _, _, _, -, -, h⟩ <;> rw [h]

@[simp] theorem readResponse_silence (s : State) : (readResponse s).silence = s.silence := by
  rcases readResponse_cases s with ⟨_, _, _, -, h⟩ | ⟨-, h⟩ <;> rw [h]

@[simp] theorem copyDutyByte_silence (k : Channel) (len : Fin 5) (s : State) : (copyDutyByte s (k, len)).silence = s.silence := by
  rcases copyDutyByte_cases s k len with ⟨-, h⟩ | ⟨-, h⟩ <;> rw [h]

@[simp] theorem setupResult_tick (r : Request) (s : State) : (setupResult r s).tick = s.tick := by
  rcases setupResult_cases s r with h | ⟨_, h⟩ | ⟨_, _, h⟩ | ⟨_, h⟩ <;> rw [h]

@[simp] theorem dataStage_tick (bytes : List Byte) (s : State) : (dataStage bytes s).tick = s.tick := by
  rcases dataStage_cases s bytes with ⟨-, h⟩ | ⟨-, -, h⟩ | ⟨_, _, _, _, -, -, h⟩ <;> rw [h]

@[simp] theorem readResponse_tick (s : State) : (readResponse s).tick = s.tick := by
  rcases readResponse_cases s with ⟨_, _, _, -, h⟩ | ⟨-, h⟩ <;> rw [h]

@[simp] theorem copyDutyByte_tick (k : Channel) (len : Fin 5) (s : State) : (copyDutyByte s (k, len)).tick = s.tick := by
  rcases copyDutyByte_cases s k len with ⟨-, h⟩ | ⟨-, h⟩ <;> rw [h]

@[simp] theorem setupResult_inbox (r : Request) (s : State) : (setupResult r s).inbox = s.inbox := by
  rcases setupResult_cases s r with h | ⟨_, h⟩ | ⟨_, _, h⟩ | ⟨_, h⟩ <;> rw [h]

@[simp] theorem dataStage_inbox (bytes : List Byte) (s : State) : (dataStage bytes s).inbox = s.inbox := by
  rcases dataStage_cases s bytes with ⟨-, h⟩ | ⟨-, -, h⟩ | ⟨_, _, _, _, -, -, h⟩ <;> rw [h]

@[simp] theorem readResponse_inbox (s : State) : (readResponse s).inbox = s.inbox := by
  rcases readResponse_cases s with ⟨_, _, _, -, h⟩ | ⟨-, h⟩ <;> rw [h]

@[simp] theorem copyDutyByte_inbox (k : Channel) (len : Fin 5) (s : State) : (copyDutyByte s (k, len)).inbox = s.inbox := by
  rcases copyDutyByte_cases s k len with ⟨-, h⟩ | ⟨-, h⟩ <;> rw [h]

/-! ### The tick handler -/

/-- How an event moves the tick handler's phase (R91, R92, R99, R100): these four move it, RESET ends it, no other touches it. -/
theorem tick_of_next {i : Instr} {s t : State} (h : exec i s = .next t) (hr : i ≠ .reset) :
    (i = .tickEnter ∧ s.tick = .idle ∧ t.tick = .copy noChannels) ∨
    (∃ k done, i = .tickCopy k ∧ s.tick = .copy done ∧
      t.tick = if addChannel done k = allChannels then .clear noChannels else .copy (addChannel done k)) ∨
    (∃ k done, i = .tickClear k ∧ s.tick = .clear done ∧
      t.tick = if addChannel done k = allChannels then .wd else .clear (addChannel done k)) ∨
    (i = .tickWd ∧ s.tick = .wd ∧ t.tick = .idle) ∨
    (i ≠ .tickEnter ∧ (∀ k, i ≠ .tickCopy k) ∧ (∀ k, i ≠ .tickClear k) ∧ i ≠ .tickWd ∧ t.tick = s.tick) := by
  have e := effect_of_next h
  cases i with
  | reset => exact absurd rfl hr
  | tickEnter => exact .inl ⟨rfl, (canTake_tick_iff.1 e.1).2.2.2, by rw [e.2]⟩
  | tickCopy k =>
    obtain ⟨done, hd, -, rfl⟩ := e
    exact .inr (.inl ⟨k, done, rfl, hd, rfl⟩)
  | tickClear k =>
    obtain ⟨done, hd, -, rfl⟩ := e
    exact .inr (.inr (.inl ⟨k, done, rfl, hd, rfl⟩))
  | tickWd => exact .inr (.inr (.inr (.inl ⟨rfl, e.1, by rw [e.2]⟩)))
  | setSpeed hd => exact .inr (.inr (.inr (.inr ⟨nofun, nofun, nofun, nofun, e.2 ▸ setupResult_tick (.setSpeed hd) s⟩)))
  | getSpeed hd => exact .inr (.inr (.inr (.inr ⟨nofun, nofun, nofun, nofun, e.2 ▸ setupResult_tick (.getSpeed hd) s⟩)))
  | getTacho hd => exact .inr (.inr (.inr (.inr ⟨nofun, nofun, nofun, nofun, e.2 ▸ setupResult_tick (.getTacho hd) s⟩)))
  | gsCopy =>
    obtain ⟨k, len, -, -, rfl⟩ := e
    exact .inr (.inr (.inr (.inr ⟨nofun, nofun, nofun, nofun, by simp⟩)))
  | ssReset =>
    obtain ⟨b, -, -, rfl⟩ := e
    exact .inr (.inr (.inr (.inr ⟨nofun, nofun, nofun, nofun, rfl⟩)))
  | ssWrite =>
    obtain ⟨k, b, -, -, rfl⟩ := e
    exact .inr (.inr (.inr (.inr ⟨nofun, nofun, nofun, nofun, rfl⟩)))
  | setup | data | inRead => exact .inr (.inr (.inr (.inr ⟨nofun, nofun, nofun, nofun, by simp [e.2]⟩)))
  | standard | boot | pinChange | vendorOther | classType | reservedType | busReset =>
    exact .inr (.inr (.inr (.inr ⟨nofun, nofun, nofun, nofun, by rw [e.2]; try rfl⟩)))

variable {ev : Nat → Instr} {st : Nat → State}

/-- In a fair run a TICKWD is taken infinitely often: every tick that comes completes (R144). -/
theorem FairRun.tickWd_after (h : FairRun ev st) (n : Nat) : ∃ m, n ≤ m ∧ ev m = .tickWd := by
  obtain ⟨hrun, ⟨-, hreset⟩, hticks, hdone, -⟩ := h
  obtain ⟨a, ha, he⟩ := hticks n
  have hphase : (st (a + 1)).tick ≠ .idle := by
    rcases tick_of_next (hrun a).2 (hreset a) with ⟨-, -, h⟩ | ⟨k, d, h, -⟩ | ⟨k, d, h, -⟩ | ⟨h, -⟩ | ⟨h, -⟩
    · simp [h]
    all_goals simp [he] at h
  obtain ⟨m, hm, hwd⟩ := hdone (a + 1) hphase
  exact ⟨m, by omega, hwd⟩

end Sys2Proof.Machine
end

