-- ==== Sys2Proof/Laws/PerInstr.lean ====
section
/-! SUPPORT. Statements made for every instruction: the encoding of each stands in its row of the opcode table. -/

namespace Sys2Proof.Laws

/-- `match` and `mask` of the row of spec/opcode_table.json, over the key of R62; an event has none. -/
def tableRow : Instr → Option (Word16 × Word16)
  | .standard _ _ => some (0x0000, 0x0060)
  | .setSpeed _ => some (0x0140, 0xFF60)
  | .getSpeed _ => some (0x0240, 0xFF60)
  | .getTacho _ => some (0x0340, 0xFF60)
  | .vendorOther _ _ => some (0x0040, 0x0060)
  | .classType _ _ => some (0x0020, 0x0060)
  | .reservedType _ _ => some (0x0060, 0x0060)
  | .reset => none
  | .boot _ => none
  | .setup _ => none
  | .data _ => none
  | .inRead => none
  | .busReset => none
  | .gsCopy => none
  | .ssReset => none
  | .ssWrite => none
  | .pinChange _ => none
  | .tickEnter => none
  | .tickCopy _ => none
  | .tickClear _ => none
  | .tickWd => none

/-- Bits 6:5 of `bmRequestType` are its type (R61). -/
theorem typeBits (dir : BitVec 1) (type : BitVec 2) (recipient : BitVec 5) :
    (dir ++ type ++ recipient)[5] = type[0] ∧ (dir ++ type ++ recipient)[6] = type[1] := by
  revert dir type recipient; decide

theorem key_and_typeMask (type : BitVec 2) (req : Byte) (h : Header) :
    (packetOf type req h).key &&& 0x0060 = type.zeroExtend 16 <<< 5 := by
  obtain ⟨d, r, _, _, _⟩ := h
  simp only [SetupPacket.key, packetOf]
  generalize dirBit d = b
  ext i hi
  interval_cases i <;> simp [typeBits b type r]

theorem key_and_fullMask (type : BitVec 2) (req : Byte) (h : Header) :
    (packetOf type req h).key &&& 0xFF60 = (req.zeroExtend 16 <<< 8) ||| (type.zeroExtend 16 <<< 5) := by
  obtain ⟨d, r, _, _, _⟩ := h
  simp only [SetupPacket.key, packetOf]
  generalize dirBit d = b
  ext i hi
  interval_cases i <;> simp [typeBits b type r]

namespace KeyInRow

/-- A class is encoded as a packet of eight bytes whose key, under its row's mask, is its row's match;
an event that is no row over the key is encoded as a line of text. -/
def Statement (i : Instr) : Prop :=
  match encode i, tableRow i with
  | .packet bytes, some (matchBits, maskBits) =>
    ∃ p, packetOfBytes bytes = some p ∧ p.key &&& maskBits = matchBits
  | .line _, none => True
  | _, _ => False

theorem standard (req : Byte) (h : Header) : Statement (.standard req h) :=
  ⟨_, rfl, key_and_typeMask 0 req h⟩

theorem setSpeed (h : Header) : Statement (.setSpeed h) := ⟨_, rfl, key_and_fullMask 2 1 h⟩

theorem getSpeed (h : Header) : Statement (.getSpeed h) := ⟨_, rfl, key_and_fullMask 2 2 h⟩

theorem getTacho (h : Header) : Statement (.getTacho h) := ⟨_, rfl, key_and_fullMask 2 3 h⟩

theorem vendorOther (req : Byte) (h : Header) : Statement (.vendorOther req h) :=
  ⟨_, rfl, key_and_typeMask 2 req h⟩

theorem classType (req : Byte) (h : Header) : Statement (.classType req h) :=
  ⟨_, rfl, key_and_typeMask 1 req h⟩

theorem reservedType (req : Byte) (h : Header) : Statement (.reservedType req h) :=
  ⟨_, rfl, key_and_typeMask 3 req h⟩

theorem reset : Statement .reset := trivial

theorem boot (lv0 : Levels) : Statement (.boot lv0) := trivial

theorem setup (pkt : SetupPacket) : Statement (.setup pkt) := trivial

theorem data (bytes : List Byte) : Statement (.data bytes) := trivial

theorem inRead : Statement .inRead := trivial

theorem busReset : Statement .busReset := trivial

theorem gsCopy : Statement .gsCopy := trivial

theorem ssReset : Statement .ssReset := trivial

theorem ssWrite : Statement .ssWrite := trivial

theorem pinChange (lv : Levels) : Statement (.pinChange lv) := trivial

theorem tickEnter : Statement .tickEnter := trivial

theorem tickCopy (k : Channel) : Statement (.tickCopy k) := trivial

theorem tickClear (k : Channel) : Statement (.tickClear k) := trivial

theorem tickWd : Statement .tickWd := trivial

end KeyInRow

end Sys2Proof.Laws
end

