-- ==== Sys2Proof/Tests/Slice0.lean ====
section
/-! SUPPORT. Tests: well-formedness, decoding of words written out from the spec, one-step tests from spec 95_test_vectors, and a witness for every statement that has hypotheses. -/

namespace Sys2Proof.Tests

open Sys2Proof Sys2Proof.Machine

/-! ### Helpers -/

/-- The next state of an outcome. -/
def after : Host.Outcome State Fault Refusal → Option State
  | .next t => some t
  | .fault _ => none
  | .refused _ => none

/-- The fault of an outcome. -/
def stopOf : Host.Outcome State Fault Refusal → Option Fault
  | .next _ => none
  | .fault f => some f
  | .refused _ => none

/-- `B(lv)` of 95_test_vectors with default duty 240 (its `scratch` is unspecified there). -/
def booted (lv : Levels) : State := bootSequence 240#8 lv State.reset

/-- The start of section 2.4 of 95_test_vectors. -/
def base : State := { booted 0b1111#4 with duty := ⟨10, 20, 30, 40⟩, psnap := ⟨3, 0, 7, 1⟩, silence := 5#8 }

/-- A block that holds the spec's default in `duty`, so that a restore shows. -/
def defaulted : State :=
  { base with duty := ⟨Config.defaultDuty, Config.defaultDuty, Config.defaultDuty, Config.defaultDuty⟩ }

/-- Setup fields with a direction and a length. -/
def header (dir : Direction) (len : Word16) : Header := ⟨dir, 0, 0, 0, len⟩

/-! ### Well-formedness -/

theorem test_wellFormed_refuses_taken_codes :
    (Instr.vendorOther 1 (header .deviceToHost 4)).wellFormed = false ∧
    (Instr.vendorOther 2 (header .deviceToHost 4)).wellFormed = false ∧
    (Instr.vendorOther 3 (header .deviceToHost 4)).wellFormed = false := by decide

theorem test_wellFormed_admits_other_codes :
    (Instr.vendorOther 0 (header .deviceToHost 4)).wellFormed = true ∧
    (Instr.vendorOther 4 (header .deviceToHost 4)).wellFormed = true ∧
    (Instr.vendorOther 255 (header .hostToDevice 4)).wellFormed = true := by decide

/-- R77: VENDOR n is for n not in 1, 2, 3. -/
theorem test_pseudo_vendor_codes :
    (Pseudo.vendor 1).schedule 0#4 = none ∧ (Pseudo.vendor 2).schedule 0#4 = none ∧
    (Pseudo.vendor 3).schedule 0#4 = none ∧
    (Pseudo.vendor 99).schedule 0#4 = some [.setup ⟨0xC0, 0x63, 0, 0, 0, 0, 0, 0⟩] ∧
    (Pseudo.vendor 0).WellFormed ∧ (Pseudo.vendor 4).WellFormed := by decide

/-! ### Decoding: setup packets, from R60, R61 and the vectors V40 to V61 -/

/-- V40, V42, V43, V45: key 0x0140 whatever recipient, wValue and wIndex; little-endian wLength. -/
theorem test_decode_setSpeed :
    decode (.packet [0x40, 0x01, 0, 0, 0, 0, 0x04, 0]) = .ok (.setSpeed (header .hostToDevice 4)) ∧
    decode (.packet [0x41, 0x01, 0x34, 0x12, 0x78, 0x56, 0x04, 0]) =
      .ok (.setSpeed ⟨.hostToDevice, 1, 0x1234, 0x5678, 4⟩) ∧
    decode (.packet [0xC0, 0x01, 0, 0, 0, 0, 0x04, 0]) = .ok (.setSpeed (header .deviceToHost 4)) ∧
    decode (.packet [0x40, 0x01, 0, 0, 0, 0, 0x04, 0x01]) = .ok (.setSpeed (header .hostToDevice 260)) := by decide

/-- V47, V50. -/
theorem test_decode_getSpeed :
    decode (.packet [0xC0, 0x02, 0, 0, 0, 0, 0x04, 0]) = .ok (.getSpeed (header .deviceToHost 4)) ∧
    decode (.packet [0xC0, 0x02, 0, 0, 0, 0, 0, 0x01]) = .ok (.getSpeed (header .deviceToHost 256)) := by decide

/-- V52. -/
theorem test_decode_getTacho :
    decode (.packet [0xC0, 0x03, 0, 0, 0, 0, 0x04, 0]) = .ok (.getTacho (header .deviceToHost 4)) := by decide

/-- V55, V57, W5. -/
theorem test_decode_vendorOther :
    decode (.packet [0xC0, 0x00, 0, 0, 0, 0, 0x04, 0]) = .ok (.vendorOther 0 (header .deviceToHost 4)) ∧
    decode (.packet [0xC0, 0xFF, 0, 0, 0, 0, 0x04, 0]) = .ok (.vendorOther 255 (header .deviceToHost 4)) ∧
    decode (.packet [0xC0, 0x63, 0, 0, 0, 0, 0x04, 0]) = .ok (.vendorOther 99 (header .deviceToHost 4)) := by decide

/-- V58, V59: bRequest 1 of a class request is not SET_SPEED. -/
theorem test_decode_classType :
    decode (.packet [0x21, 0x01, 0, 0, 0, 0, 0x04, 0]) = .ok (.classType 1 ⟨.hostToDevice, 1, 0, 0, 4⟩) ∧
    decode (.packet [0xA1, 0x03, 0, 0, 0, 0, 0x04, 0]) = .ok (.classType 3 ⟨.deviceToHost, 1, 0, 0, 4⟩) := by decide

/-- V60. -/
theorem test_decode_reservedType :
    decode (.packet [0xE0, 0x02, 0, 0, 0, 0, 0x04, 0]) = .ok (.reservedType 2 (header .deviceToHost 4)) := by decide

/-- V61: GET_DESCRIPTOR. -/
theorem test_decode_standard :
    decode (.packet [0x80, 0x06, 0x00, 0x01, 0, 0, 0x12, 0]) = .ok (.standard 6 ⟨.deviceToHost, 0, 0x0100, 0, 18⟩) := by
  decide

theorem test_decode_refuses_short_packet :
    decode (.packet [0x40, 0x01, 0, 0, 0, 0, 0x04]) = .error .packetLength := by decide

/-- The opcode table's match words, read as the low bytes of a packet of zeros. -/
theorem test_decodeTableWord :
    decodeTableWord 16 0x0000 = some (.standard 0 (header .hostToDevice 0)) ∧
    decodeTableWord 16 0x0140 = some (.setSpeed (header .hostToDevice 0)) ∧
    decodeTableWord 16 0x0240 = some (.getSpeed (header .hostToDevice 0)) ∧
    decodeTableWord 16 0x0340 = some (.getTacho (header .hostToDevice 0)) ∧
    decodeTableWord 16 0x0040 = some (.vendorOther 0 (header .hostToDevice 0)) ∧
    decodeTableWord 16 0x0020 = some (.classType 0 (header .hostToDevice 0)) ∧
    decodeTableWord 16 0x0060 = some (.reservedType 0 (header .hostToDevice 0)) ∧
    decodeTableWord 0 0 = none := by decide

/-! ### Decoding: the event text of R76 -/

theorem test_decode_reset : decode (.line (word ['R', 'E', 'S', 'E', 'T'])) = .ok .reset := by decide
/-- Bit 3 comes first. -/
theorem test_decode_boot :
    decode (.line (word ['B', 'O', 'O', 'T', ' ', 'l', 'v', '=', '0', 'b', '1', '0', '0', '0'])) = .ok (.boot 8#4) := by decide
theorem test_decode_setup :
    decode (.line (word ['S', 'E', 'T', 'U', 'P', ' ', 'C', '0', ' ', '0', '2', ' ', '0', '0', ' ', '0', '0', ' ',
      '0', '0', ' ', '0', '0', ' ', '0', '4', ' ', '0', '0'])) = .ok (.setup ⟨0xC0, 2, 0, 0, 0, 0, 4, 0⟩) := by decide
theorem test_decode_data :
    decode (.line (word ['D', 'A', 'T', 'A', ' ', '0', 'a', ' ', 'f', 'f'])) = .ok (.data [10, 255]) := by decide
theorem test_decode_inRead : decode (.line (word ['I', 'N'])) = .ok .inRead := by decide
theorem test_decode_busReset : decode (.line (word ['B', 'U', 'S', 'R', 'E', 'S', 'E', 'T'])) = .ok .busReset := by decide
theorem test_decode_gsCopy : decode (.line (word ['G', 'S', 'C', 'O', 'P', 'Y'])) = .ok .gsCopy := by decide
theorem test_decode_ssReset : decode (.line (word ['S', 'S', 'R', 'E', 'S', 'E', 'T'])) = .ok .ssReset := by decide
theorem test_decode_ssWrite : decode (.line (word ['S', 'S', 'W', 'R', 'I', 'T', 'E'])) = .ok .ssWrite := by decide
theorem test_decode_pinChange :
    decode (.line (word ['P', 'C', ' ', 'l', 'v', '=', '0', 'b', '0', '0', '0', '1'])) = .ok (.pinChange 1#4) := by decide
theorem test_decode_tickEnter : decode (.line (word ['T', 'I', 'C', 'K', 'E', 'N', 'T', 'E', 'R'])) = .ok .tickEnter := by decide
theorem test_decode_tickCopy : decode (.line (word ['T', 'I', 'C', 'K', 'C', 'O', 'P', 'Y', ' ', '3'])) = .ok (.tickCopy 3) := by decide
theorem test_decode_tickClear : decode (.line (word ['T', 'I', 'C', 'K', 'C', 'L', 'E', 'A', 'R', ' ', '0'])) = .ok (.tickClear 0) := by decide
/-- A `#` starts a comment. -/
theorem test_decode_tickWd_comment :
    decode (.line (word ['T', 'I', 'C', 'K', 'W', 'D', ' ', '#', ' ', 'x'])) = .ok .tickWd := by decide

theorem test_decode_rejects_by_name :
    decode (.line (word ['#', ' ', 'R', 'E', 'S', 'E', 'T'])) = .error .emptyLine ∧
    decode (.line (word ['N', 'O', 'P'])) = .error .unknownMnemonic ∧
    decode (.line (word ['T', 'I', 'C', 'K', 'C', 'O', 'P', 'Y', ' ', '4'])) = .error .badArguments ∧
    decode (.line (word ['R', 'E', 'S', 'E', 'T', ' ', '1'])) = .error .badArguments := by decide

/-! ### The step -/

/-- A placed table word is the very next event: 0x0040 from reset is VENDOR_OTHER, one zero-length response. -/
theorem test_withFetchWord_runs :
    (after (step (State.reset.withFetchWord 16 0x0040))).map State.trace = some [.resp 0] := by decide

theorem test_step_takes_inbox_in_order :
    (after (step { base with inbox := [.packet [0x40, 1, 0, 0, 0, 0, 4, 0], .line kwIn] })).map
      (fun t => (t.ctl, t.inbox)) = some (.outWait, [.line kwIn]) := by decide

/-! ### One event each, from 95_test_vectors -/

/-- V70, V74: from the middle of a tick; the mark of V75 stays. -/
theorem test_reset :
    (after (exec .reset { base with tick := .wd, refused := some .dirMismatch })).map
      (fun t => (t.tick, t.ctl, t.boot, t.psnap, t.silence, t.refused)) =
      some (.idle, .idle, .reset, zeroBank, 0#8, some .dirMismatch) := rfl

/-- V7. -/
theorem test_boot_sequence :
    (bootSequence 7#8 0b1111#4 State.reset).duty = ⟨7, 7, 7, 7⟩ ∧
    (bootSequence 7#8 0b1111#4 State.reset).pwmCfg = true ∧
    (bootSequence 7#8 0b1111#4 State.reset).levels = 0b1111#4 := by decide

/-- V73. -/
theorem test_boot_only_after_reset : stopOf (exec (.boot 0#4) base) = some .bootNotEnabled := by decide

/-- V40. -/
theorem test_setSpeed :
    after (exec (.setSpeed (header .hostToDevice 4)) base) = some { base with ctl := .outWait, trace := [.awaitOut] } := by
  decide
/-- V44, V45. -/
theorem test_setSpeed_length :
    after (exec (.setSpeed (header .hostToDevice 2)) base) = some { base with refused := some .setLen } ∧
    after (exec (.setSpeed (header .hostToDevice 260)) base) = some { base with refused := some .setLen } := by decide

/-- V50: wLength 256 is truncated to four bytes. -/
theorem test_getSpeed :
    after (exec (.getSpeed (header .deviceToHost 256)) base) = some { base with mainOp := .gsCopy 0 4 } := by decide
/-- V51. -/
theorem test_getSpeed_direction :
    after (exec (.getSpeed (header .hostToDevice 4)) base) = some { base with refused := some .dirMismatch } := by decide

/-- V54. -/
theorem test_getTacho :
    after (exec (.getTacho (header .deviceToHost 8)) base) =
      some { base with ctl := .inResp .snap 4 0, trace := [.resp 4] } := by decide
/-- V53. -/
theorem test_getTacho_zero_length :
    after (exec (.getTacho (header .deviceToHost 0)) base) = some { base with trace := [.resp 0] } := by decide

/-- V57. -/
theorem test_vendorOther :
    after (exec (.vendorOther 255 (header .deviceToHost 4)) { base with ctl := .outWait }) =
      some { base with trace := [.resp 0] } := by decide
/-- V58. -/
theorem test_classType :
    after (exec (.classType 1 (header .hostToDevice 4)) base) = some { base with trace := [.resp 0] } := by decide
/-- V60. -/
theorem test_reservedType :
    after (exec (.reservedType 2 (header .deviceToHost 4)) base) = some { base with trace := [.resp 0] } := by decide
/-- V61. -/
theorem test_standard :
    after (exec (.standard 6 (header .deviceToHost 18)) { base with ctl := .outWait }) =
      some { base with ctl := .outWait } := by decide

/-- V63: a refused setup keeps the awaited data stage. -/
theorem test_setup_refused :
    after (exec (.setup ⟨0xC0, 1, 0, 0, 0, 0, 4, 0⟩) { base with ctl := .outWait }) =
      some { base with ctl := .outWait, refused := some .dirMismatch } := by decide
/-- V72. -/
theorem test_setup_before_boot :
    stopOf (exec (.setup ⟨0x40, 1, 0, 0, 0, 0, 4, 0⟩) State.reset) = some .hostEventNotEnabled := by decide

/-- V41. -/
theorem test_data :
    after (exec (.data [10, 11, 12, 13]) { base with ctl := .outWait }) =
      some { base with mainOp := .ssReset ⟨10, 11, 12, 13⟩ } := by decide
/-- V46, V67. -/
theorem test_data_wrong_or_stray :
    after (exec (.data [1, 2, 3]) { base with ctl := .outWait }) =
      some { base with ctl := .outWait, refused := some .setLen } ∧
    after (exec (.data [1, 2, 3, 4]) base) = some base := by decide

/-- V52, its third byte. -/
theorem test_inRead :
    after (exec .inRead { base with ctl := .inResp .snap 4 2 }) =
      some { base with ctl := .inResp .snap 4 3, trace := [.byte 7] } := by decide
/-- V48 and V66: the last byte of two, then none. -/
theorem test_inRead_end :
    after (exec .inRead { base with ctl := .inResp .scratch 2 1, scratch := ⟨10, 20, 30, 40⟩ }) =
      some { base with scratch := ⟨10, 20, 30, 40⟩, trace := [.byte 20] } ∧
    after (exec .inRead base) = some { base with refused := some .inNoData } := by decide

/-- V65. -/
theorem test_busReset :
    after (exec .busReset { base with ctl := .inResp .snap 4 1 }) = some base := by decide
/-- V68. -/
theorem test_busReset_mid_tick :
    stopOf (exec .busReset { base with tick := .clear 0b0011#4 }) = some .hostEventNotEnabled := by decide

/-- V47, V49: the last byte of the copy designates the response, none of length 0. -/
theorem test_gsCopy_last :
    after (exec .gsCopy { base with mainOp := .gsCopy 3 4 }) =
      some { base with scratch := ⟨0, 0, 0, 40⟩, ctl := .inResp .scratch 4 0, trace := [.resp 4] } ∧
    after (exec .gsCopy { base with mainOp := .gsCopy 3 0 }) =
      some { base with scratch := ⟨0, 0, 0, 40⟩, trace := [.resp 0] } := by decide
/-- V77. -/
theorem test_gsCopy_blocked :
    stopOf (exec .gsCopy { base with mainOp := .gsCopy 1 4, tick := .copy 0b0011#4 }) = some .gsCopyNotEnabled := by decide

/-- V34. -/
theorem test_ssReset :
    after (exec .ssReset { base with silence := 77#8, mainOp := .ssReset ⟨1, 2, 3, 4⟩ }) =
      some { base with silence := 0#8, mainOp := .ssWrite 0 ⟨1, 2, 3, 4⟩ } := by decide

/-- V41, its third and fourth writes. -/
theorem test_ssWrite :
    after (exec .ssWrite { base with mainOp := .ssWrite 2 ⟨10, 11, 12, 13⟩ }) =
      some { base with duty := ⟨10, 20, 12, 40⟩, mainOp := .ssWrite 3 ⟨10, 11, 12, 13⟩ } ∧
    after (exec .ssWrite { base with mainOp := .ssWrite 3 ⟨10, 11, 12, 13⟩ }) =
      some { base with duty := ⟨10, 20, 30, 13⟩ } := by decide

/-- W9, V13, V14. -/
theorem test_pinChange :
    after (exec (.pinChange 0b0110#4) { base with levels := 0b0101#4 }) =
      some { base with pcnt := ⟨0, 1, 0, 0⟩, levels := 0b0110#4 } ∧
    after (exec (.pinChange 0b1100#4) { base with levels := 0b0011#4 }) =
      some { base with pcnt := ⟨0, 0, 1, 1⟩, levels := 0b1100#4 } ∧
    after (exec (.pinChange 0b0001#4) { base with levels := 0#4, pcnt := ⟨255, 0, 0, 0⟩ }) =
      some { base with levels := 0b0001#4 } := by decide
/-- V21, V76: enabled inside a callback and inside the tick handler; V72: not before BOOT. -/
theorem test_pinChange_nests :
    canTake .pinChange { base with mainOp := .gsCopy 1 4 } = true ∧
    canTake .pinChange { base with tick := .copy 0b0011#4 } = true ∧
    stopOf (exec (.pinChange 1#4) State.reset) = some .pinChangeNotEnabled := by decide

/-- V37: the handler is not re-entrant. -/
theorem test_tickEnter :
    after (exec .tickEnter base) = some { base with tick := .copy 0#4 } ∧
    stopOf (exec .tickEnter { base with tick := .copy 0#4 }) = some .tickEnterNotEnabled := by decide

/-- V16, its first and last copy. -/
theorem test_tickCopy :
    after (exec (.tickCopy 3) { base with pcnt := ⟨3, 0, 7, 1⟩, psnap := ⟨9, 9, 9, 9⟩, tick := .copy 0#4 }) =
      some { base with pcnt := ⟨3, 0, 7, 1⟩, psnap := ⟨9, 9, 9, 1⟩, tick := .copy 0b1000#4 } ∧
    after (exec (.tickCopy 2) { base with pcnt := ⟨3, 0, 7, 1⟩, psnap := ⟨3, 0, 9, 1⟩, tick := .copy 0b1011#4 }) =
      some { base with pcnt := ⟨3, 0, 7, 1⟩, psnap := ⟨3, 0, 7, 1⟩, tick := .clear 0#4 } := by decide

/-- V16, its last clear; V17. -/
theorem test_tickClear :
    after (exec (.tickClear 1) { base with pcnt := ⟨0, 6, 0, 0⟩, tick := .clear 0b1101#4 }) =
      some { base with tick := .wd } ∧
    stopOf (exec (.tickClear 0) { base with tick := .copy 0b0001#4 }) = some .tickClearNotEnabled := by decide

/-- V30 to V33, the parameters given. -/
theorem test_countSilence :
    countSilence 128 240#8 { base with silence := 127#8 } = { base with silence := 128#8 } ∧
    countSilence 128 240#8 { base with silence := 128#8 } = { base with silence := 0#8, duty := ⟨240, 240, 240, 240⟩ } ∧
    countSilence 0 240#8 { base with silence := 0#8 } = { base with silence := 0#8, duty := ⟨240, 240, 240, 240⟩ } ∧
    countSilence 254 240#8 { base with silence := 254#8 } = { base with silence := 0#8, duty := ⟨240, 240, 240, 240⟩ } := by
  decide
theorem test_tickWd_needs_its_phase : stopOf (exec .tickWd base) = some .tickWdNotEnabled := by decide

/-! ### Witnesses: for every statement with hypotheses, a state and operands that meet them -/

/-- The booted block with `silence = 0`: a state of the invariant whatever the bound. -/
def quiet : State := { base with silence := 0#8 }

theorem quiet_inv : quiet.Inv := by
  constructor <;> simp [quiet, base, booted, bootSequence, enterPollLoop, enableInterrupts, setAllDuty, setDutyCycle,
    memWrite, configureTacho, configurePwm, State.reset]

/-- A block before BOOT that meets the invariant. -/
def unbooted : State := { State.reset with levels := 0b1010#4, duty := ⟨1, 2, 3, 4⟩ }

theorem unbooted_inv : unbooted.Inv := by
  constructor <;> simp [unbooted, State.reset]

/-- The events of one tick up to its TICKWD. -/
def tickWithoutWd : List Instr :=
  [.tickEnter, .tickCopy 0, .tickCopy 1, .tickCopy 2, .tickCopy 3, .tickClear 0, .tickClear 1, .tickClear 2, .tickClear 3]

theorem tickWithoutWd_completes {s : State}
    (hs : s.boot = .run ∧ s.ie = true ∧ s.tickArmed = true ∧ s.tick = .idle) :
    ∃ t, runEvents tickWithoutWd s = .next t ∧ t.tick = .wd := by
  obtain ⟨hb, hi, ha, ht⟩ := hs
  exact ⟨_, by simp [tickWithoutWd, runEvents, exec_tickEnter, stepWhen, canTake_tick_iff.2 ⟨hb, hi, ha, ht⟩,
    exec_tickCopy, exec_tickClear, stepWith, tickCopyReady, tickClearReady, copyChannel, clearChannel,
    hasChannel, addChannel, noChannels, allChannels]; rfl, by simp⟩

theorem witness_DecodeEncodeRoundTrip :
    (Instr.vendorOther 0 (header .deviceToHost 4)).WellFormed ∧ (Instr.setup ⟨0xC0, 2, 0, 0, 0, 0, 4, 0⟩).WellFormed ∧
    (Instr.data []).WellFormed := by decide

/-- V40 against V42. -/
theorem witness_IgnoredSetupFields :
    let p : SetupPacket := ⟨0x40, 1, 0, 0, 0, 0, 4, 0⟩
    let q : SetupPacket := ⟨0x41, 1, 0x34, 0x12, 0x78, 0x56, 4, 0⟩
    p ≠ q ∧ p.reqType = q.reqType ∧ p.b0.getLsbD 7 = q.b0.getLsbD 7 ∧ p.b1 = q.b1 ∧ p.b6 = q.b6 ∧ p.b7 = q.b7 := by
  decide

theorem witness_DecodedInstrWellFormed :
    decode (.packet [0xC0, 0x04, 0, 0, 0, 0, 0, 0]) = .ok (.vendorOther 4 (header .deviceToHost 0)) := by decide

theorem witness_StepRunsDecodedEvent :
    ({ base with inbox := [.line kwIn] } : State).inbox = [.line kwIn] ∧ decode (.line kwIn) = .ok .inRead := by decide

theorem witness_StepWithoutDecodedEvent :
    ({ base with inbox := [.packet []] } : State).inbox = [.packet []] ∧
    decode (.packet []) = .error .packetLength ∧ base.inbox = [] := by decide

theorem witness_NextExactlyWhenEnabled :
    enabled .inRead base = true ∧ enabled .inRead State.reset = false := by decide

theorem witness_BootRule : State.reset.boot = .reset ∧ base.boot ≠ .reset := by decide

theorem witness_OnlyBootAndResetBeforeBoot :
    unbooted.Inv ∧ unbooted.boot = .reset ∧ ∃ t, exec (.boot 0b1111#4) unbooted = .next t :=
  ⟨unbooted_inv, rfl, _, rfl⟩

theorem witness_InterruptFlagsSetOnlyByBoot :
    (∃ t, exec (.pinChange 1#4) base = .next t) ∧ (∃ t, exec .tickEnter base = .next t) ∧
    (∃ t, exec .reset base = .next t) ∧ (∃ t, exec (.boot 1#4) State.reset = .next t) ∧
    (∃ t, exec .inRead base = .next t) ∧ Instr.inRead ≠ .reset ∧ ∀ lv0, Instr.inRead ≠ .boot lv0 :=
  ⟨⟨_, rfl⟩, ⟨_, rfl⟩, ⟨_, rfl⟩, ⟨_, rfl⟩, ⟨_, rfl⟩, by decide, nofun⟩

theorem witness_SetDutyCycleWritesOneChannel : (3 : Channel) ≠ 0 := by decide

/-- An SSWRITE that changes channel 0, and a tick that completes the 255th silence count whatever the bound. -/
theorem witness_DutyWriters :
    (∃ t, exec .ssWrite { base with mainOp := .ssWrite 0 ⟨1, 2, 3, 4⟩ } = .next t ∧
      t.duty ≠ ({ base with mainOp := .ssWrite 0 ⟨1, 2, 3, 4⟩ } : State).duty) ∧
    ∃ t, exec .tickWd { base with tick := .wd, silence := 254#8, duty := Bank.fill (Config.defaultDuty + 1#8) } = .next t ∧
      t.duty ≠ Bank.fill (Config.defaultDuty + 1#8) := by
  refine ⟨⟨_, rfl, by decide⟩, ?_⟩
  have hS : Config.silenceBound.val < 255 := Config.silenceBound.isLt
  refine ⟨_, by simp [exec_tickWd, stepWhen, tickWdReady]; rfl, ?_⟩
  simp [countSilence, hS, restoreDefaultDutyCycle, setAllDuty, setDutyCycle, memWrite, Bank.set, Bank.fill, Bank.ofFn]

theorem witness_PwmOutputFollowsDuty :
    State.reset.pwmCfg = false ∧ base.pwmCfg = true ∧ ({ base with silence := 9#8 } : State).pwmCfg = true ∧
    base.duty.get 2 = ({ base with silence := 9#8 } : State).duty.get 2 := by decide

/-- Two blocks with different counts, over a run that completes and one that does not. -/
theorem witness_OpenLoop :
    let s' : State := { base with pcnt := ⟨9, 9, 9, 9⟩, psnap := ⟨8, 8, 8, 8⟩ }
    s' = { base with pcnt := s'.pcnt, psnap := s'.psnap, trace := s'.trace } ∧
    (∃ t, runEvents (.pinChange 0#4 :: tickWithoutWd) base = .next t) ∧
    runEvents [.tickEnter, .tickWd] base = .fault .tickWdNotEnabled :=
  ⟨rfl, ⟨_, rfl⟩, rfl⟩

theorem witness_PinChangeRule :
    base.boot = .run ∧ base.ie = true ∧ base.pcie = true ∧
    ¬ (State.reset.boot = .run ∧ State.reset.ie = true ∧ State.reset.pcie = true) := by decide

theorem witness_TickCopyRule :
    ({ base with tick := .copy 0b0111#4 } : State).tick = .copy 0b0111#4 ∧ (0b0111#4).getLsbD (3 : Channel).val = false ∧
    ¬ ∃ done : ChannelSet, base.tick = .copy done ∧ done.getLsbD (3 : Channel).val = false :=
  ⟨rfl, by decide, fun ⟨_, h, _⟩ => nomatch h⟩

theorem witness_TickClearRule :
    ({ base with tick := .clear 0b1110#4 } : State).tick = .clear 0b1110#4 ∧ (0b1110#4).getLsbD (0 : Channel).val = false ∧
    ¬ ∃ done : ChannelSet, base.tick = .clear done ∧ done.getLsbD (0 : Channel).val = false :=
  ⟨rfl, by decide, fun ⟨_, h, _⟩ => nomatch h⟩

theorem witness_TachoSingleWriters :
    (∃ t, exec (.pinChange 1#4) base = .next t) ∧ (∃ t, exec (.tickCopy 1) { base with tick := .copy 0#4 } = .next t) ∧
    (∃ t, exec (.boot 1#4) State.reset = .next t) ∧
    isMainStep .gsCopy = true ∧ ∃ t, exec .gsCopy { base with mainOp := .gsCopy 0 4 } = .next t :=
  ⟨⟨_, rfl⟩, ⟨_, rfl⟩, ⟨_, rfl⟩, rfl, _, rfl⟩

/-- An edge of channel 0 seen, then its copy. -/
theorem witness_WindowCommitsEdgesSeen :
    let evs : List Instr := [.pinChange 0#4, .pinChange 1#4, .tickEnter]
    Instr.reset ∉ evs ∧ Instr.tickCopy 0 ∉ evs ∧ Instr.tickClear 0 ∉ evs ∧
    ∃ u, runEvents evs base = .next u ∧ ∃ t, exec (.tickCopy 0) u = .next t :=
  ⟨by decide, by decide, by decide, _, rfl, _, rfl⟩

/-- V18: an edge of channel 0 between its copy and its clear. -/
theorem witness_EdgeBetweenCopyAndClearIsLost :
    let s : State := { base with levels := 0#4, pcnt := ⟨2, 0, 0, 0⟩, tick := .copy 0#4 }
    let evs : List Instr := [.pinChange 1#4, .tickCopy 1, .tickCopy 2, .tickCopy 3]
    Instr.reset ∉ evs ∧ Instr.tickClear 0 ∉ evs ∧
    ∃ s₁, exec (.tickCopy 0) s = .next s₁ ∧ ∃ u, runEvents evs s₁ = .next u ∧ ∃ t, exec (.tickClear 0) u = .next t :=
  ⟨by decide, by decide, _, rfl, _, rfl, _, rfl⟩

theorem witness_TickEnterRule :
    base.boot = .run ∧ base.ie = true ∧ base.tickArmed = true ∧ base.tick = .idle ∧
    ¬ (State.reset.boot = .run ∧ State.reset.ie = true ∧ State.reset.tickArmed = true ∧ State.reset.tick = .idle) := by
  decide

/-- A count of S, the smallest that restores; a wrapped count and, below the bound, a count of 0, which do not; a state outside T_WD. -/
theorem witness_TickWdRule :
    let atBound : State := { base with tick := .wd, silence := BitVec.ofNat 8 Config.silenceBound.val }
    let wrapped : State := { base with tick := .wd, silence := 255#8 }
    (atBound.tick = .wd ∧ (atBound.silence + 1#8).toNat > Config.silenceBound.val) ∧
    (wrapped.tick = .wd ∧ ¬ (wrapped.silence + 1#8).toNat > Config.silenceBound.val) ∧
    (0 < Config.silenceBound.val → ¬ (quiet.silence + 1#8).toNat > Config.silenceBound.val) ∧ base.tick ≠ .wd := by
  have hS : Config.silenceBound.val < 255 := Config.silenceBound.isLt
  refine ⟨⟨rfl, ?_⟩, ⟨rfl, by simp⟩, fun h => ?_, by decide⟩
  · simp only [BitVec.toNat_add, BitVec.toNat_ofNat]
    omega
  · have : (0#8 + 1#8).toNat = 1 := by decide
    simp only [quiet, this]
    omega

theorem witness_SilenceWriters :
    ∃ t, exec .ssReset { base with mainOp := .ssReset ⟨1, 2, 3, 4⟩ } = .next t ∧ t.silence ≠ base.silence :=
  ⟨_, rfl, by decide⟩

theorem mem_repeat_of_mem {i : Instr} {evs : List Instr} {n : Nat} (h : i ∈ repeatEvents evs n) : i ∈ evs := by
  induction n with
  | zero => cases h
  | succ n ih => exact (List.mem_append.1 h).elim id ih

theorem not_mem_repeat {i : Instr} {evs : List Instr} {n : Nat} (h : i ∉ evs) : i ∉ repeatEvents evs n :=
  fun h' => h (mem_repeat_of_mem h')

/-- Exactly S completed ticks (the last value of the first clause, the value of the second), and then a tick whose
TICKWD can be taken. -/
theorem witness_SilenceProperty :
    let evs := repeatEvents tickEvents Config.silenceBound.val ++ tickWithoutWd
    quiet.silence = 0#8 ∧ Instr.ssReset ∉ evs ∧ Instr.reset ∉ evs ∧ Instr.ssWrite ∉ evs ∧
    (∀ lv0, Instr.boot lv0 ∉ evs) ∧ ticksCompleted evs = Config.silenceBound.val ∧
    ∃ t, runEvents evs quiet = .next t ∧ ∃ u, exec .tickWd t = .next u := by
  obtain ⟨t, ht, ht'⟩ := ticks_complete Config.silenceBound.val (s := quiet) (by decide)
  obtain ⟨u, hu, hu'⟩ := tickWithoutWd_completes ht'
  refine ⟨rfl, ?_, ?_, ?_, fun lv0 => ?_, ?_, u, by rw [runEvents_append ht, hu], ?_⟩
  · exact List.mem_append.not.2 (not_or.2 ⟨not_mem_repeat (by decide), by decide⟩)
  · exact List.mem_append.not.2 (not_or.2 ⟨not_mem_repeat (by decide), by decide⟩)
  · exact List.mem_append.not.2 (not_or.2 ⟨not_mem_repeat (by decide), by decide⟩)
  · exact List.mem_append.not.2 (not_or.2 ⟨not_mem_repeat (by simp [tickEvents]), by simp [tickWithoutWd]⟩)
  · rw [ticksCompleted_append, ticksCompleted_repeat, show ticksCompleted tickWithoutWd = 0 by decide, Nat.add_zero]
  · exact ⟨_, by simp [exec_tickWd, stepWhen, tickWdReady, hu']; rfl⟩

theorem witness_StepKeepsInvariants :
    ({ quiet with inbox := [.line kwIn] } : State).Inv ∧
    ∃ t, step { quiet with inbox := [.line kwIn] } = .next t := by
  refine ⟨?_, _, rfl⟩
  constructor <;> simp [quiet, base, booted, bootSequence, enterPollLoop, enableInterrupts, setAllDuty, setDutyCycle,
    memWrite, configureTacho, configurePwm, State.reset]

/-- From reset, one BOOT delivered and taken. -/
theorem witness_ReachableRunningStates : ∃ s : State, Reachable s ∧ s.boot = .run :=
  ⟨_, .step (.deliver [lineOf [kwBoot, levelsWord 0b1111#4]] .start) rfl, rfl⟩

theorem witness_SilenceNeverExceedsBound : Reachable State.reset := .start

/-- SetSpeedSetupRule, GetSpeedSetupRule, GetTachoSetupRule, DefaultRequestRule, StandardRequestRule, SetupRule and
BusResetRule: the condition of R108, which they share, with a setup of each direction and the lengths around 4. -/
theorem witness_requestRules :
    base.boot = .run ∧ base.mainOp = .none ∧ base.tick = .idle ∧
    (header .hostToDevice 4).dir = .hostToDevice ∧ (header .hostToDevice 4).wLength = 4#16 ∧
    (header .deviceToHost 4).dir = .deviceToHost ∧
    (header .hostToDevice 3).wLength ≠ 4#16 ∧ (header .hostToDevice 5).wLength ≠ 4#16 := by decide

/-- One packet for each clause of SETUP's rule. -/
theorem witness_SetupRule :
    ((0x80#8).extractLsb' 5 2 = 0#2) ∧
    ((0x40#8).extractLsb' 5 2 = 2#2 ∧ (0x40#8).getLsbD 7 = false) ∧
    ((0xC0#8).extractLsb' 5 2 = 2#2 ∧ (0xC0#8).getLsbD 7 = true) ∧
    ((0#8 ++ 4#8 : Word16) = 4#16) ∧ ((1#8 ++ 4#8 : Word16) ≠ 4#16) ∧
    ((0x21#8).extractLsb' 5 2 ≠ 0#2 ∧ (0x21#8).extractLsb' 5 2 ≠ 2#2) ∧
    (0#8 ≠ 1#8 ∧ 0#8 ≠ 2#8 ∧ 0#8 ≠ 3#8) ∧ (4#8 ≠ 1#8 ∧ 4#8 ≠ 2#8 ∧ 4#8 ≠ 3#8) := by decide

theorem witness_NewSetupEndsTransfer :
    (decodeRequest ⟨0xC0, 2, 0, 0, 0, 0, 4, 0⟩).row ≠ 1 ∧ base.refused = none ∧
    ∃ t, exec (.setup ⟨0xC0, 2, 0, 0, 0, 0, 4, 0⟩) { base with ctl := .outWait } = .next t ∧ t.refused = none :=
  ⟨by decide, rfl, _, rfl, rfl⟩

theorem witness_DataStageRule :
    let s : State := { base with ctl := .outWait }
    s.boot = .run ∧ s.mainOp = .none ∧ s.tick = .idle ∧ s.ctl = .outWait ∧ base.ctl ≠ .outWait ∧
    ([1, 2, 3] : List Byte).length ≠ 4 ∧ ([1, 2, 3, 4, 5] : List Byte).length ≠ 4 := by decide

theorem witness_SsResetRule :
    ({ base with mainOp := .ssReset ⟨1, 2, 3, 4⟩ } : State).mainOp = .ssReset ⟨1, 2, 3, 4⟩ ∧ base.tick = .idle ∧
    ¬ ∃ b : Bank, base.mainOp = .ssReset b ∧ base.tick = .idle :=
  ⟨rfl, rfl, fun ⟨_, h, _⟩ => nomatch h⟩

theorem witness_SsWriteRule :
    ({ base with mainOp := .ssWrite 3 ⟨1, 2, 3, 4⟩ } : State).mainOp = .ssWrite 3 ⟨1, 2, 3, 4⟩ ∧ base.tick = .idle ∧
    ¬ ∃ (k : Channel) (b : Bank), base.mainOp = .ssWrite k b ∧ base.tick = .idle :=
  ⟨rfl, rfl, fun ⟨_, _, h, _⟩ => nomatch h⟩

/-- The channels on both sides of `k < 3`. -/
theorem witness_GsCopyRule :
    ({ base with mainOp := .gsCopy 2 4 } : State).mainOp = .gsCopy 2 4 ∧ (2 : Channel).val < 3 ∧
    ({ base with mainOp := .gsCopy 3 0 } : State).mainOp = .gsCopy 3 0 ∧ ¬ (3 : Channel).val < 3 ∧ base.tick = .idle ∧
    ¬ ∃ (k : Channel) (len : Fin 5), base.mainOp = .gsCopy k len ∧ base.tick = .idle :=
  ⟨rfl, by decide, rfl, by decide, rfl, fun ⟨_, _, h, _⟩ => nomatch h⟩

theorem witness_InReadRule :
    base.boot = .run ∧ base.mainOp = .none ∧ base.tick = .idle ∧
    ({ base with ctl := .inResp .scratch 4 3 } : State).ctl = .inResp .scratch 4 3 ∧
    ({ base with ctl := .inResp .snap 1 0 } : State).ctl = .inResp .snap 1 0 ∧ base.ctl = .idle := by decide

theorem witness_HostEventsNeedIdleMain :
    isHostEvent .busReset = true ∧ (base.boot = .run ∧ base.mainOp = .none ∧ base.tick = .idle) ∧
    ¬ (State.reset.boot = .run ∧ State.reset.mainOp = .none ∧ State.reset.tick = .idle) := by decide

theorem witness_GetRequestsReadOnly :
    (∃ t, exec (.getSpeed (header .deviceToHost 4)) base = .next t) ∧
    (∃ t, exec (.getTacho (header .deviceToHost 4)) base = .next t) ∧
    (∃ t, exec .gsCopy { base with mainOp := .gsCopy 3 4 } = .next t) ∧
    ∃ t, exec .inRead { base with ctl := .inResp .snap 4 0 } = .next t :=
  ⟨⟨_, rfl⟩, ⟨_, rfl⟩, ⟨_, rfl⟩, _, rfl⟩

theorem witness_CopiedResponseDoesNotChange :
    let s : State := { quiet with ctl := .inResp .scratch 4 0 }
    s.Inv ∧ s.ctl = .inResp .scratch 4 0 ∧ Instr.inRead ≠ .reset ∧ ∃ t, exec .inRead s = .next t := by
  refine ⟨?_, rfl, by decide, _, rfl⟩
  constructor <;> simp [quiet, base, booted, bootSequence, enterPollLoop, enableInterrupts, setAllDuty, setDutyCycle,
    memWrite, configureTacho, configurePwm, State.reset]

/-- W1 with exactly S ticks, all after the last copy; the bound S is the last value its premise admits. -/
theorem witness_SetThenGetSpeedRoundTrip :
    let v : Bank := ⟨0, 255, 0, 255⟩
    let evs := (Pseudo.expand base.levels (.setSpeed v) ++ Pseudo.expand base.levels .getSpeed) ++
      repeatEvents tickEvents Config.silenceBound.val
    evs.filter isMainStep = Pseudo.expand base.levels (.setSpeed v) ++ Pseudo.expand base.levels .getSpeed ∧
    Instr.reset ∉ evs ∧ (∀ lv0, Instr.boot lv0 ∉ evs) ∧ ticksCompleted evs = Config.silenceBound.val ∧
    ∃ t, runEvents evs base = .next t := by
  intro v evs
  obtain ⟨t, ht, ht'⟩ : ∃ t, runEvents (Pseudo.expand base.levels (.setSpeed v) ++ Pseudo.expand base.levels .getSpeed)
      base = .next t ∧ (t.boot = .run ∧ t.ie = true ∧ t.tickArmed = true ∧ t.tick = .idle) := ⟨_, rfl, by decide⟩
  obtain ⟨u, hu, -⟩ := ticks_complete Config.silenceBound.val ht'
  have hfilter : ∀ n, (repeatEvents tickEvents n).filter isMainStep = [] := fun n =>
    List.filter_eq_nil_iff.2 fun i hi => by
      have := mem_repeat_of_mem hi
      simp only [tickEvents, List.mem_cons, List.not_mem_nil, or_false] at this
      rcases this with rfl | rfl | rfl | rfl | rfl | rfl | rfl | rfl | rfl | rfl <;> decide
  refine ⟨?_, ?_, fun lv0 => ?_, ?_, u, by rw [runEvents_append ht, hu]⟩
  · rw [List.filter_append, hfilter, List.append_nil]
    decide
  · exact List.mem_append.not.2 (not_or.2 ⟨by decide, not_mem_repeat (by decide)⟩)
  · exact List.mem_append.not.2 (not_or.2 ⟨by simp [Pseudo.expand], not_mem_repeat (by simp [tickEvents])⟩)
  · rw [ticksCompleted_append, ticksCompleted_repeat]
    exact Nat.zero_add _

/-- The default in `duty`, and a whole tick. -/
theorem witness_DefaultDutyWithoutHostWrites :
    defaulted.duty = ⟨Config.defaultDuty, Config.defaultDuty, Config.defaultDuty, Config.defaultDuty⟩ ∧
    Instr.ssWrite ∉ tickEvents ∧ Instr.reset ∉ tickEvents ∧ ∃ t, runEvents tickEvents defaulted = .next t := by
  obtain ⟨t, ht, -⟩ := tick_completes (s := defaulted) ⟨rfl, rfl, rfl, rfl⟩
  exact ⟨rfl, by decide, by decide, t, ht⟩

theorem witness_RefusalMarkNeverCleared :
    ∃ t, exec .reset { base with refused := some .setLen } = .next t ∧
      ({ base with refused := some .setLen } : State).refused ≠ none :=
  ⟨_, rfl, by decide⟩

/-- One event for each case of the table. -/
theorem witness_RefusalReasons :
    (∃ t, exec (.setSpeed (header .deviceToHost 4)) base = .next t ∧ t.refused ≠ base.refused) ∧
    (∃ t, exec (.setSpeed (header .hostToDevice 5)) base = .next t ∧ t.refused ≠ base.refused) ∧
    (∃ t, exec (.setup ⟨0x40, 3, 0, 0, 0, 0, 4, 0⟩) base = .next t ∧ t.refused ≠ base.refused) ∧
    (∃ t, exec (.data []) { base with ctl := .outWait } = .next t ∧ t.refused ≠ base.refused) ∧
    ∃ t, exec .inRead base = .next t ∧ t.refused ≠ base.refused :=
  ⟨⟨_, rfl, by decide⟩, ⟨_, rfl, by decide⟩, ⟨_, rfl, by decide⟩, ⟨_, rfl, by decide⟩, _, rfl, by decide⟩

theorem witness_MainBlockedDuringTick :
    isMainStep .ssWrite = true ∧ ({ base with mainOp := .ssWrite 0 ⟨1, 2, 3, 4⟩, tick := .wd } : State).tick ≠ .idle := by
  decide

theorem witness_HandlersLeaveMainAlone :
    isHandlerStep (.tickCopy 2) = true ∧
    ∃ t, exec (.tickCopy 2) { base with tick := .copy 0#4, mainOp := .gsCopy 1 4 } = .next t :=
  ⟨rfl, _, rfl⟩

/-! ### A fair run: one tick after another for ever -/

/-- The phase of the tick handler before event j of a tick. -/
def phaseBefore : Nat → TickPhase
  | 0 => .idle
  | 1 => .copy 0b0000#4
  | 2 => .copy 0b0001#4
  | 3 => .copy 0b0011#4
  | 4 => .copy 0b0111#4
  | 5 => .clear 0b0000#4
  | 6 => .clear 0b0001#4
  | 7 => .clear 0b0011#4
  | 8 => .clear 0b0111#4
  | _ => .wd

/-- A running block with MAIN idle, about to take event j of a tick. -/
def BeforeEvent (j : Nat) (s : State) : Prop :=
  s.boot = .run ∧ s.ie = true ∧ s.tickArmed = true ∧ s.mainOp = .none ∧ s.tick = phaseBefore j

/-- The events of the run. -/
def loopEvent (n : Nat) : Instr := tickEvents.getD (n % 10) .tickEnter

/-- The states of the run. -/
def loopState : Nat → State
  | 0 => quiet
  | n + 1 => (after (exec (loopEvent n) (loopState n))).getD (loopState n)

theorem tick_event_advances {j : Nat} (hj : j < 10) {s : State} (hs : BeforeEvent j s) :
    ∃ t, exec (tickEvents.getD j .tickEnter) s = .next t ∧ BeforeEvent ((j + 1) % 10) t := by
  obtain ⟨hb, hi, ha, hm, ht⟩ := hs
  interval_cases j
  all_goals first
    | exact ⟨_, stepWhen_eq_next.2 ⟨canTake_tick_iff.2 ⟨hb, hi, ha, ht⟩, rfl⟩, hb, hi, ha, hm, rfl⟩
    | exact ⟨_, stepWith_eq_next.2 ⟨_, tickCopyReady_eq_some.2 ⟨ht, by decide⟩, rfl⟩, hb, hi, ha, hm, rfl⟩
    | exact ⟨_, stepWith_eq_next.2 ⟨_, tickClearReady_eq_some.2 ⟨ht, by decide⟩, rfl⟩, hb, hi, ha, hm, rfl⟩
    | (refine ⟨_, stepWhen_eq_next.2 ⟨tickWdReady_iff.2 ht, rfl⟩, ?_⟩
       rcases countSilence_cases Config.silenceBound.val Config.defaultDuty s with ⟨-, h⟩ | ⟨-, h⟩ <;>
         rw [h] <;> exact ⟨hb, hi, ha, hm, rfl⟩)

theorem loopState_succ {n : Nat} {t : State} (h : exec (loopEvent n) (loopState n) = .next t) : loopState (n + 1) = t := by
  rw [loopState, h]
  rfl

theorem loop_before (n : Nat) : BeforeEvent (n % 10) (loopState n) := by
  induction n with
  | zero => exact ⟨rfl, rfl, rfl, rfl, rfl⟩
  | succ n ih =>
    obtain ⟨t, ht, ht'⟩ := tick_event_advances (Nat.mod_lt n (by decide)) ih
    rw [loopState_succ ht]
    simpa [Nat.add_mod] using ht'

theorem loop_steps (n : Nat) : exec (loopEvent n) (loopState n) = .next (loopState (n + 1)) := by
  obtain ⟨t, ht, -⟩ := tick_event_advances (Nat.mod_lt n (by decide)) (loop_before n)
  rw [loopState_succ ht]
  exact ht

theorem loopEvent_mem (n : Nat) : loopEvent n ∈ tickEvents := by
  have : n % 10 < 10 := Nat.mod_lt n (by decide)
  unfold loopEvent
  interval_cases n % 10 <;> decide

theorem loop_fair : FairRun loopEvent loopState := by
  have hwf : ∀ i ∈ tickEvents, i.WellFormed ∧ i ≠ .reset := by decide
  refine ⟨fun n => ⟨(hwf _ (loopEvent_mem n)).1, loop_steps n⟩, ⟨rfl, fun n => (hwf _ (loopEvent_mem n)).2⟩,
    fun n => ⟨10 * n, by omega, ?_⟩, fun n _ => ⟨10 * n + 9, by omega, ?_⟩,
    fun n h => absurd (loop_before n).2.2.2.1 h⟩
  · simp [loopEvent, tickEvents]
  · simp [loopEvent, tickEvents, Nat.add_mod]

theorem witness_AnyEnabledEventMayBeNext :
    Instr.WellFormed (.boot 0b1111#4) ∧ Reachable State.reset ∧ ∃ t, exec (.boot 0b1111#4) State.reset = .next t :=
  ⟨rfl, .start, _, rfl⟩

/-- A tick that starts at 0, and a copy and a clear inside it. -/
theorem witness_FairRunsKeepCommitting :
    FairRun loopEvent loopState ∧ loopEvent 0 = .tickEnter ∧ loopEvent 9 = .tickWd ∧
    loopEvent 4 = .tickCopy 3 ∧ loopEvent 5 = .tickClear 0 :=
  ⟨loop_fair, rfl, rfl, rfl, rfl⟩

theorem witness_FairRunsRestoreAfterSilence :
    FairRun loopEvent loopState ∧ ∀ m, 0 ≤ m → loopEvent m ≠ .ssReset :=
  ⟨loop_fair, fun m _ h => absurd (h ▸ loopEvent_mem m) (by decide)⟩

end Sys2Proof.Tests
end

section
/-! PROOFS. When an event has a next state (O10), and what a step runs (O8, O9). -/

namespace Sys2Proof.Machine

/-- The outcome of an event whose enabling rule is `ready`: a next state if it holds, a fault if not (R9). -/
def NextExactlyIf (ready : Bool) (o : Host.Outcome State Fault Refusal) : Prop :=
  (ready = true → ∃ t, o = .next t) ∧ (ready = false → ∃ f, o = .fault f)

theorem stepWhen_nextExactlyIf (ready : Bool) (why : Fault) (t : State) :
    NextExactlyIf ready (stepWhen ready why t) :=
  ⟨fun h => ⟨t, stepWhen_eq_next.2 ⟨h, rfl⟩⟩, fun h => ⟨why, stepWhen_eq_fault.2 ⟨h, rfl⟩⟩⟩

theorem stepWith_nextExactlyIf {α : Type} (ready : Option α) (why : Fault) (f : α → State) :
    NextExactlyIf ready.isSome (stepWith ready why f) := by
  cases ready with
  | some a => exact ⟨fun _ => ⟨f a, rfl⟩, nofun⟩
  | none => exact ⟨nofun, fun _ => ⟨why, rfl⟩⟩

theorem exec_nextExactlyIf_enabled (i : Instr) (s : State) : NextExactlyIf (enabled i s) (exec i s) := by
  cases i with
  | reset => exact ⟨fun _ => ⟨_, rfl⟩, nofun⟩
  | setup p => exact execSetup_eq s p ▸ stepWhen_nextExactlyIf ..
  | gsCopy | ssReset | ssWrite | tickCopy | tickClear => exact stepWith_nextExactlyIf ..
  | _ => exact stepWhen_nextExactlyIf ..

/-- Settles O10: `exec` of every event but RESET is one of the two shared forms of an enabled step. -/
theorem nextExactlyWhenEnabled : Obligations.NextExactlyWhenEnabled :=
  exec_nextExactlyIf_enabled

theorem nextEvent_of_decode_ok {s : State} {d : Delivery} {rest : List Delivery} {i : Instr}
    (hs : s.inbox = d :: rest) (hd : decode d = .ok i) :
    nextEvent s = .ok (some i, { s with inbox := rest }) := by
  simp [nextEvent, hs, hd]

theorem nextEvent_of_decode_error {s : State} {d : Delivery} {rest : List Delivery} {e : DecodeError}
    (hs : s.inbox = d :: rest) (hd : decode d = .error e) : nextEvent s = .error e := by
  simp [nextEvent, hs, hd]

theorem nextEvent_of_no_delivery {s : State} (hs : s.inbox = []) :
    nextEvent s = .ok (offeredEvent s, { s with draws := s.draws + 1 }) := by
  simp [nextEvent, hs]

/-- Settles O8: the delivery listed first is the next event (R133). -/
theorem stepRunsDecodedEvent : Obligations.StepRunsDecodedEvent := by
  intro s d rest i hs hd
  simp only [step, nextEvent_of_decode_ok hs hd]

/-- Settles O9: the second clause by whether the freely chosen event is offered. -/
theorem stepWithoutDecodedEvent : Obligations.StepWithoutDecodedEvent := by
  refine ⟨fun s d rest e hs hd => ?_, fun s hs => ?_⟩
  · simp only [step, nextEvent_of_decode_error hs hd]
  · simp only [step, nextEvent_of_no_delivery hs]
    by_cases h : (Config.freeEvent s.draws).WellFormed ∧ enabled (Config.freeEvent s.draws) s = true
    · have offered : offeredEvent s = some (Config.freeEvent s.draws) := by simp [offeredEvent, h]
      rw [offered, if_pos h]
    · have none_offered : offeredEvent s = none := by simpa [offeredEvent] using h
      rw [none_offered, if_neg h]

end Sys2Proof.Machine
end

section
/-! PROOFS. The duty registers do not depend on pulse counts (O20): blocks that differ in counts alone simulate each other. -/

namespace Sys2Proof.Machine

/-- `s` with other pulse counts: running, committed and reported (R4). -/
def State.withCounts (s : State) (running committed : Bank) (reported : List TraceItem) : State :=
  { s with pcnt := running, psnap := committed, trace := reported }

@[simp] theorem State.withCounts_ctl (s : State) (p c : Bank) (tr : List TraceItem) :
    (s.withCounts p c tr).ctl = s.ctl := rfl

@[simp] theorem State.withCounts_silence (s : State) (p c : Bank) (tr : List TraceItem) :
    (s.withCounts p c tr).silence = s.silence := rfl

/-- Equal in every field that is not a pulse count. -/
def SameButCounts (s s' : State) : Prop := s' = s.withCounts s'.pcnt s'.psnap s'.trace

theorem SameButCounts.duty_eq {s s' : State} (h : SameButCounts s s') : s'.duty = s.duty := by
  rw [h]; rfl

/-- What SETUP does (R110) reads no pulse count. -/
theorem setupResult_sameButCounts (r : Request) (s : State) (p c : Bank) (tr : List TraceItem) :
    SameButCounts (setupResult r s) (setupResult r (s.withCounts p c tr)) := by
  cases r with
  | setSpeed h =>
    simp only [setupResult, setSpeedSetup]
    split_ifs <;> rfl
  | getSpeed h =>
    simp only [setupResult, getSpeedSetup]
    split_ifs <;> rfl
  | getTacho h =>
    simp only [setupResult, getTachoSetup]
    split_ifs <;> rfl
  | standard | vendorOther | classType | reservedType => rfl

/-- A data stage (R112) reads no pulse count. -/
theorem dataStage_sameButCounts (bytes : List Byte) (s : State) (p c : Bank) (tr : List TraceItem) :
    SameButCounts (dataStage bytes s) (dataStage bytes (s.withCounts p c tr)) := by
  simp only [dataStage, State.withCounts_ctl]
  cases s.ctl with
  | outWait => cases payloadOf bytes <;> rfl
  | idle | inResp => rfl

/-- A response byte of GET_TACHO is a pulse count, but only the trace takes it (R119). -/
theorem readResponse_sameButCounts (s : State) (p c : Bank) (tr : List TraceItem) :
    SameButCounts (readResponse s) (readResponse (s.withCounts p c tr)) := by
  simp only [readResponse, State.withCounts_ctl]
  cases s.ctl <;> rfl

theorem copyDutyByte_sameButCounts (a : Channel × Fin 5) (s : State) (p c : Bank) (tr : List TraceItem) :
    SameButCounts (copyDutyByte s a) (copyDutyByte (s.withCounts p c tr) a) := by
  simp only [copyDutyByte]
  split_ifs <;> rfl

/-- The fail-safe (R100) reads `silence`, no pulse count. -/
theorem countSilence_sameButCounts (bound : Nat) (dflt : Byte) (s : State) (p c : Bank) (tr : List TraceItem) :
    SameButCounts (returnFromInterrupt .tick (countSilence bound dflt s))
      (returnFromInterrupt .tick (countSilence bound dflt (s.withCounts p c tr))) := by
  by_cases h : (s.silence + 1#8).toNat > bound
  · simp only [countSilence, State.withCounts_silence, h, if_true]; rfl
  · simp only [countSilence, State.withCounts_silence, h, if_false]; rfl

/-- Outcomes that stop alike or end in states that differ only in counts. -/
inductive OutcomesAgree : Host.Outcome State Fault Refusal → Host.Outcome State Fault Refusal → Prop where
  | next {t t' : State} (h : SameButCounts t t') : OutcomesAgree (.next t) (.next t')
  | fault (f : Fault) : OutcomesAgree (.fault f) (.fault f)
  | refused (r : Refusal) : OutcomesAgree (.refused r) (.refused r)

theorem stepWhen_agree (ready : Bool) (why : Fault) {t t' : State} (h : SameButCounts t t') :
    OutcomesAgree (stepWhen ready why t) (stepWhen ready why t') := by
  cases ready with
  | true => exact .next h
  | false => exact .fault why

theorem stepWith_agree {α : Type} (ready : Option α) (why : Fault) {f f' : α → State}
    (h : ∀ a, SameButCounts (f a) (f' a)) : OutcomesAgree (stepWith ready why f) (stepWith ready why f') := by
  cases ready with
  | some a => exact .next (h a)
  | none => exact .fault why

/-- One event: its enabling rule reads no pulse count, and pulse counts go into pulse counts alone. -/
theorem exec_withCounts_agree (i : Instr) (s : State) (p c : Bank) (tr : List TraceItem) :
    OutcomesAgree (exec i s) (exec i (s.withCounts p c tr)) := by
  cases i with
  | standard req h => exact stepWhen_agree _ _ rfl
  | setSpeed h => exact stepWhen_agree _ _ (setupResult_sameButCounts (.setSpeed h) s p c tr)
  | getSpeed h => exact stepWhen_agree _ _ (setupResult_sameButCounts (.getSpeed h) s p c tr)
  | getTacho h => exact stepWhen_agree _ _ (setupResult_sameButCounts (.getTacho h) s p c tr)
  | setup pkt =>
    rw [execSetup_eq, execSetup_eq]
    exact stepWhen_agree _ _ (setupResult_sameButCounts _ s p c tr)
  | reset => exact .next rfl
  | data bytes => exact stepWhen_agree _ _ (dataStage_sameButCounts bytes s p c tr)
  | inRead => exact stepWhen_agree _ _ (readResponse_sameButCounts s p c tr)
  | gsCopy => exact stepWith_agree _ _ fun a => copyDutyByte_sameButCounts a s p c tr
  | ssReset | ssWrite | tickCopy | tickClear => exact stepWith_agree _ _ fun _ => rfl
  | tickWd => exact stepWhen_agree _ _ (countSilence_sameButCounts _ _ s p c tr)
  | vendorOther | classType | reservedType | boot | busReset | pinChange | tickEnter =>
    exact stepWhen_agree _ _ rfl

theorem exec_agree (i : Instr) {s s' : State} (h : SameButCounts s s') : OutcomesAgree (exec i s) (exec i s') := by
  rw [h]; exact exec_withCounts_agree i s _ _ _

theorem runEvents_agree (evs : List Instr) {s s' : State} (h : SameButCounts s s') :
    OutcomesAgree (runEvents evs s) (runEvents evs s') := by
  induction evs generalizing s s' with
  | nil => exact .next h
  | cons i is ih =>
    have agree := exec_agree i h
    simp only [runEvents]
    generalize exec i s = o, exec i s' = o' at agree ⊢
    cases agree with
    | next ht => exact ih ht
    | fault f => exact .fault f
    | refused r => exact .refused r

/-- Settles O20, by simulation: every event takes blocks that differ only in counts to such blocks. -/
theorem openLoop : Obligations.OpenLoop := by
  intro evs s s' h
  have agree := runEvents_agree evs (s := s) (s' := s') h
  refine ⟨fun t ht => ?_, fun f hf => ?_⟩
  · rw [ht] at agree
    generalize runEvents evs s' = o at agree
    cases agree with
    | next hsame => exact ⟨_, rfl, hsame.duty_eq, hsame⟩
  · rw [hf] at agree
    generalize runEvents evs s' = o at agree
    cases agree with
    | fault => rfl

end Sys2Proof.Machine
end

section
/-! PROOFS. The decoder reads every well-formed instruction back from its encoding (R60, R61, R76). -/

namespace Sys2Proof

/-! ### Packets -/

/-- The two halves of a bit vector, put together. -/
theorem halves_append (n : Nat) (x : BitVec (n + n)) : x.extractLsb' n n ++ x.extractLsb' 0 n = x := by
  rw [BitVec.extractLsb'_append_extractLsb'_eq_extractLsb' (Nat.zero_add n).symm, BitVec.extractLsb'_eq_self]

theorem fieldOf_bytes (w : Word16) : fieldOf (w.extractLsb' 0 8) (w.extractLsb' 8 8) = w :=
  halves_append 8 w

/-- The fields of `bmRequestType` (R61), each in its place. -/
theorem bmRequestType_fields (dir : BitVec 1) (type : BitVec 2) (recipient : BitVec 5) :
    (dir ++ type ++ recipient).getLsbD 7 = dir.getLsbD 0 ∧
    (dir ++ type ++ recipient).extractLsb' 5 2 = type ∧
    (dir ++ type ++ recipient).extractLsb' 0 5 = recipient := by
  revert dir type recipient; decide

@[simp] theorem packetOf_b1 (type : BitVec 2) (req : Byte) (h : Header) : (packetOf type req h).b1 = req := rfl

@[simp] theorem packetOf_reqType (type : BitVec 2) (req : Byte) (h : Header) :
    (packetOf type req h).reqType = type :=
  (bmRequestType_fields ..).2.1

@[simp] theorem packetOf_direction (type : BitVec 2) (req : Byte) (h : Header) :
    (packetOf type req h).direction = h.dir := by
  rw [SetupPacket.direction, packetOf, (bmRequestType_fields ..).1]
  cases h.dir <;> rfl

@[simp] theorem packetOf_header (type : BitVec 2) (req : Byte) (h : Header) : (packetOf type req h).header = h := by
  simp only [SetupPacket.header, packetOf_direction]
  simp only [packetOf, (bmRequestType_fields ..).2.2, fieldOf_bytes]

/-- A packet is decoded to the instruction of its class (R60, R63). -/
theorem decode_packet_bytes (p : SetupPacket) : decode (.packet p.bytes) = .ok (decodeRequest p).toInstr := rfl

theorem decodeRequest_packetOf_vendorOther {req : Byte} {hd : Header} (h : (Instr.vendorOther req hd).WellFormed) :
    decodeRequest (packetOf 2 req hd) = .vendorOther req hd := by
  obtain ⟨⟨not_setSpeed, not_getSpeed⟩, not_getTacho⟩ : (req ≠ 1#8 ∧ req ≠ 2#8) ∧ req ≠ 3#8 := by
    simpa [Instr.WellFormed, Instr.wellFormed] using h
  simp [decodeRequest, not_setSpeed, not_getSpeed, not_getTacho]

/-! ### Lines -/

/-- A letter that neither ends a word nor starts a comment. -/
def inWord (c : Byte) : Bool := !isComment c && !isBlank c

/-- A word of the text (R76). -/
abbrev IsWord (w : List Byte) : Prop := w ≠ [] ∧ ∀ c ∈ w, inWord c = true

theorem wordsFrom_cons_inWord {c : Byte} (h : inWord c = true) (acc rest : List Byte) :
    wordsFrom acc (c :: rest) = wordsFrom (acc ++ [c]) rest := by
  obtain ⟨hcomment, hblank⟩ : isComment c = false ∧ isBlank c = false := by simpa [inWord] using h
  simp [wordsFrom, hcomment, hblank]

theorem closeWord_of_isWord {w : List Byte} (h : IsWord w) : closeWord w = [w] := by
  simp [closeWord, h.1]

theorem wordsFrom_append {w : List Byte} (hw : ∀ c ∈ w, inWord c = true) (acc rest : List Byte) :
    wordsFrom acc (w ++ rest) = wordsFrom (acc ++ w) rest := by
  induction w generalizing acc with
  | nil => simp
  | cons c cs ih =>
    obtain ⟨hc, hcs⟩ := List.forall_mem_cons.1 hw
    rw [List.cons_append, wordsFrom_cons_inWord hc, ih hcs, List.append_assoc, List.singleton_append]

theorem wordsFrom_word {w : List Byte} (hw : IsWord w) : wordsFrom [] w = [w] := by
  simpa [wordsFrom, closeWord_of_isWord hw] using wordsFrom_append hw.2 [] []

theorem wordsFrom_word_space {w : List Byte} (hw : IsWord w) (rest : List Byte) :
    wordsFrom [] (w ++ ascii ' ' :: rest) = w :: wordsFrom [] rest := by
  have space : isComment (ascii ' ') = false ∧ isBlank (ascii ' ') = true := by decide
  simp [wordsFrom_append hw.2, wordsFrom, space, closeWord_of_isWord hw]

theorem wordsFrom_joinWords {ws : List (List Byte)} (h : ∀ w ∈ ws, IsWord w) : wordsFrom [] (joinWords ws) = ws := by
  induction ws with
  | nil => rfl
  | cons w ws ih =>
    obtain ⟨hw, hws⟩ := List.forall_mem_cons.1 h
    cases ws with
    | nil => exact wordsFrom_word hw
    | cons w' ws => rw [joinWords, wordsFrom_word_space hw, ih hws]

/-- A line of a keyword and its arguments is decoded from these words (R76). -/
theorem decode_lineOf {kw : List Byte} {args : List (List Byte)} (hkw : IsWord kw) (hargs : ∀ w ∈ args, IsWord w) :
    decode (lineOf (kw :: args)) = decodeWords (kw :: args) := by
  rw [lineOf, decode, wordsFrom_joinWords (List.forall_mem_cons.2 ⟨hkw, hargs⟩)]

/-! ### Arguments -/

theorem readHexDigit_hexDigit (d : BitVec 4) : readHexDigit (hexDigit d) = some d := by
  revert d; decide

theorem readHexByte_hexByte (b : Byte) : readHexByte (hexByte b) = some b := by
  simp only [readHexByte, hexByte, readHexDigit_hexDigit]
  exact congrArg some (halves_append 4 b)

theorem readHexBytes_hexBytes (bs : List Byte) : readHexBytes (bs.map hexByte) = some bs := by
  induction bs with
  | nil => rfl
  | cons b bs ih => simp [readHexBytes, readHexByte_hexByte, ih]

theorem setupArguments_bytes (p : SetupPacket) : setupArguments (p.bytes.map hexByte) = .ok (.setup p) := by
  rw [setupArguments, readHexBytes_hexBytes]; rfl

theorem dataArguments_bytes (bs : List Byte) : dataArguments (bs.map hexByte) = .ok (.data bs) := by
  rw [dataArguments, readHexBytes_hexBytes]

theorem readLevels_levelsWord (lv : Levels) : readLevels (levelsWord lv) = some lv := by
  revert lv; decide

theorem readChannel_channelWord (k : Channel) : readChannel (channelWord k) = some k := by
  revert k; decide

theorem oneArgument_of_read {α : Type} {f : α → Instr} {read : List Byte → Option α} {w : List Byte} {a : α}
    (h : read w = some a) : oneArgument f read [w] = .ok (f a) := by
  rw [oneArgument, h]

theorem isWord_hexBytes (bs : List Byte) : ∀ w ∈ bs.map hexByte, IsWord w := by
  have digit : ∀ d, inWord (hexDigit d) = true := by decide
  simp [IsWord, hexByte, digit]

theorem isWord_levelsWord (lv : Levels) : ∀ w ∈ [levelsWord lv], IsWord w := by
  have letters : ∀ c ∈ kwLevels, inWord c = true := by decide
  have digit : ∀ b, inWord (bitDigit b) = true := by decide
  simpa [IsWord, levelsWord, or_imp, forall_and, digit] using letters

theorem isWord_channelWord (k : Channel) : ∀ w ∈ [channelWord k], IsWord w := by
  revert k; decide

/-! ### The round trip -/

theorem decode_encode {i : Instr} (h : i.WellFormed) : decode (encode i) = .ok i := by
  cases i with
  | vendorOther req hd =>
    rw [encode, decode_packet_bytes, decodeRequest_packetOf_vendorOther h]; rfl
  | standard | setSpeed | getSpeed | getTacho | classType | reservedType =>
    simp [encode, decode_packet_bytes, decodeRequest, Request.toInstr]
  | setup p => exact (decode_lineOf (by decide) (isWord_hexBytes _)).trans (setupArguments_bytes p)
  | data bs => exact (decode_lineOf (by decide) (isWord_hexBytes _)).trans (dataArguments_bytes bs)
  | boot lv | pinChange lv =>
    exact (decode_lineOf (by decide) (isWord_levelsWord lv)).trans (oneArgument_of_read (readLevels_levelsWord lv))
  | tickCopy k | tickClear k =>
    exact (decode_lineOf (by decide) (isWord_channelWord k)).trans (oneArgument_of_read (readChannel_channelWord k))
  | reset | inRead | busReset | gsCopy | ssReset | ssWrite | tickEnter | tickWd => decide

end Sys2Proof
end

section
/-! PROOFS. Any enabled event may be next (O58). -/

namespace Sys2Proof.Machine

/-- With the encoding of `i` delivered first, a step runs `i` (R133). -/
theorem step_of_encoded_delivery {i : Instr} (h : i.WellFormed) (s : State) :
    step { s with inbox := encode i :: s.inbox } = exec i s :=
  stepRunsDecodedEvent _ _ _ _ rfl (decode_encode h)

/-- Settles O58: the event's own encoding is a delivery that lets it be next. -/
theorem anyEnabledEventMayBeNext : Obligations.AnyEnabledEventMayBeNext := by
  intro i s t hi hs ht
  exact .step (.deliver (encode i :: s.inbox) hs) (step_of_encoded_delivery hi s ▸ ht)

end Sys2Proof.Machine
end

section
/-! PROOFS. The refusal mark stays set (O54): an event keeps the mark, or sets it and changes nothing else. -/

namespace Sys2Proof.Machine

/-- From `s` to `t` the refusal mark is kept, or `t` is `s` with the mark set (R9, R37). -/
def KeepsOrSetsMark (s t : State) : Prop :=
  t.refused = s.refused ∨ ∃ why, t = { s with refused := some why }

theorem KeepsOrSetsMark.refused_ne_none {s t : State} (h : KeepsOrSetsMark s t) (hs : s.refused ≠ none) :
    t.refused ≠ none := by
  obtain kept | ⟨why, rfl⟩ := h
  · exact kept ▸ hs
  · simp

theorem setupResult_keepsOrSetsMark (r : Request) (s : State) : KeepsOrSetsMark s (setupResult r s) := by
  obtain e | e | ⟨_, _, e⟩ | ⟨_, e⟩ := setupResult_cases s r
  · exact .inl (by rw [e])
  · exact .inr e
  · exact .inl (by rw [e])
  · exact .inl (by rw [e])

theorem dataStage_keepsOrSetsMark (bytes : List Byte) (s : State) : KeepsOrSetsMark s (dataStage bytes s) := by
  obtain ⟨-, e⟩ | ⟨-, -, e⟩ | ⟨_, _, _, _, -, -, e⟩ := dataStage_cases s bytes
  · exact .inl (by rw [e])
  · exact .inr ⟨_, e⟩
  · exact .inl (by rw [e])

theorem readResponse_keepsOrSetsMark (s : State) : KeepsOrSetsMark s (readResponse s) := by
  obtain ⟨_, _, _, -, e⟩ | ⟨-, e⟩ := readResponse_cases s
  · exact .inl (by rw [e])
  · exact .inr ⟨_, e⟩

@[simp] theorem copyDutyByte_refused (k : Channel) (len : Fin 5) (s : State) :
    (copyDutyByte s (k, len)).refused = s.refused := by
  obtain ⟨-, e⟩ | ⟨-, e⟩ := copyDutyByte_cases s k len <;> rw [e]

@[simp] theorem countSilence_refused (bound : Nat) (dflt : Byte) (s : State) :
    (countSilence bound dflt s).refused = s.refused := by
  obtain ⟨-, e⟩ | ⟨-, e⟩ := countSilence_cases bound dflt s <;> rw [e]

theorem exec_keepsOrSetsMark {i : Instr} {s t : State} (h : exec i s = .next t) : KeepsOrSetsMark s t := by
  have effect := effect_of_next h
  cases i with
  | reset => cases h; exact .inl rfl
  | setSpeed hd => exact effect.2 ▸ setupResult_keepsOrSetsMark (.setSpeed hd) s
  | getSpeed hd => exact effect.2 ▸ setupResult_keepsOrSetsMark (.getSpeed hd) s
  | getTacho hd => exact effect.2 ▸ setupResult_keepsOrSetsMark (.getTacho hd) s
  | setup p => exact effect.2 ▸ setupResult_keepsOrSetsMark (decodeRequest p) s
  | data bytes => exact effect.2 ▸ dataStage_keepsOrSetsMark bytes s
  | inRead => exact effect.2 ▸ readResponse_keepsOrSetsMark s
  | gsCopy =>
    obtain ⟨k, len, -, -, rfl⟩ := effect
    exact .inl (copyDutyByte_refused k len s)
  | ssReset =>
    obtain ⟨b, -, -, rfl⟩ := effect
    exact .inl rfl
  | ssWrite =>
    obtain ⟨k, b, -, -, rfl⟩ := effect
    exact .inl rfl
  | tickCopy k | tickClear k =>
    obtain ⟨done, -, -, rfl⟩ := effect
    exact .inl rfl
  | tickWd => exact .inl (effect.2 ▸ countSilence_refused ..)
  | standard | vendorOther | classType | reservedType | boot | busReset | pinChange | tickEnter =>
    exact .inl (effect.2 ▸ rfl)

/-- Settles O54: an event that writes the mark sets it (R37). -/
theorem refusalMarkNeverCleared : Obligations.RefusalMarkNeverCleared :=
  fun _ _ _ h => (exec_keepsOrSetsMark h).refused_ne_none

end Sys2Proof.Machine
end

section
/-! PROOFS. The invariant of R41 and R105 holds at reset (O11, O31), is kept by every step (O32), and so holds of every reachable state (O33). -/

namespace Sys2Proof.Machine

/-! ### The state after reset -/

/-- Settles O11: every value of R42 stands in `State.reset`. -/
theorem resetStateHoldsGivenValues : Obligations.ResetStateHoldsGivenValues :=
  ⟨rfl, rfl, rfl, rfl, rfl, rfl, rfl, rfl, rfl, rfl, rfl, rfl⟩

/-- A block before BOOT, with the values R42 and R150 give it, meets the invariant. -/
theorem resetBlock_inv (d : Bank) (l : Levels) (c : Bank) (s : State) : (resetBlock d l c s).Inv where
  running := nofun
  stopped _ := ⟨rfl, rfl, rfl, rfl, rfl, rfl, rfl, rfl, rfl, rfl⟩
  response := nofun
  callback _ := rfl
  silence := Nat.zero_le _
  copying := nofun
  clearing := nofun

/-- Settles O31: `State.reset` is what RESET's pseudocode (R150) makes of it. -/
theorem resetMeetsInvariants : Obligations.ResetMeetsInvariants :=
  resetBlock_inv zeroBank 0 zeroBank State.reset

/-! ### What is pending says that the block runs (R38) -/

namespace State.Inv

variable {s : State}

theorem boot_of_mainOp (hs : s.Inv) (h : s.mainOp ≠ .none) : s.boot = .run := by
  cases hb : s.boot with
  | run => rfl
  | reset =>
    obtain ⟨-, -, -, -, -, -, -, -, no_callback, -⟩ := hs.stopped hb
    exact absurd no_callback h

theorem boot_of_tick (hs : s.Inv) (h : s.tick ≠ .idle) : s.boot = .run := by
  cases hb : s.boot with
  | run => rfl
  | reset =>
    obtain ⟨-, -, -, -, -, -, -, -, -, no_handler⟩ := hs.stopped hb
    exact absurd no_handler h

/-! ### The updates the invariant allows -/

/-- The invariant does not speak of what a step takes its event from (R133). -/
theorem withEventSource (hs : s.Inv) (ds : List Delivery) (n : Nat) :
    State.Inv { s with inbox := ds, draws := n } :=
  { hs with }

/-- MAIN of a running block may change `ctl` and `mainOp` within R41, and what the invariant does not speak of. -/
theorem withMain (hs : s.Inv) (run : s.boot = .run) {c : CtlState} {op : MainOp} {d scr : Bank}
    {mark : Option Reason} {tr : List TraceItem}
    (response : ∀ src len sent, c = .inResp src len sent → 1 ≤ len.val ∧ sent.val < len.val)
    (callback : op ≠ .none → c = .idle) :
    State.Inv { s with ctl := c, mainOp := op, duty := d, scratch := scr, refused := mark, trace := tr } :=
  { hs with stopped := by simp [run], response, callback }

/-- The silence count of a running block may change within R105, and so may `duty`. -/
theorem withSilence (hs : s.Inv) (run : s.boot = .run) {n : Byte} {d : Bank}
    (silence : n.toNat ≤ Config.silenceBound.val) : State.Inv { s with silence := n, duty := d } :=
  { hs with stopped := by simp [run], silence }

/-- A handler of a running block may change `tick` within R91 and R92, the counts and the levels. -/
theorem withHandler (hs : s.Inv) (run : s.boot = .run) {phase : TickPhase} {p c : Bank} {lv : Levels}
    (copying : ∀ done, phase = .copy done → done ≠ allChannels)
    (clearing : ∀ done, phase = .clear done → done ≠ allChannels) :
    State.Inv { s with tick := phase, pcnt := p, psnap := c, levels := lv } :=
  { hs with stopped := by simp [run], copying, clearing }

end State.Inv

/-! ### A response stays within its length (R41) -/

/-- A response is designated with no byte read, and only where it has one (R117, R118). -/
theorem designated_within_length (src : RespSource) (len : Fin 5) :
    ∀ src' len' sent, (if len = 0 then .idle else .inResp src len 0) = CtlState.inResp src' len' sent →
      1 ≤ len'.val ∧ sent.val < len'.val := by
  intro src' len' sent h
  split at h
  · cases h
  case isFalse has_byte =>
    cases h
    have pos : 0 < len.val := Fin.pos_iff_ne_zero.2 has_byte
    exact ⟨pos, pos⟩

/-- A read goes one byte on, and ends the response with its last byte (R119). -/
theorem advanced_within_length (src : RespSource) {len : Fin 5} {sent : Channel} (within : sent.val < len.val) :
    ∀ src' len' sent', (if sent.val + 1 = len.val then .idle else .inResp src len (sent + 1)) =
      CtlState.inResp src' len' sent' → 1 ≤ len'.val ∧ sent'.val < len'.val := by
  intro src' len' sent' h
  split at h
  · cases h
  case isFalse not_last =>
    cases h
    have next_sent : (sent + 1).val = sent.val + 1 := Fin.val_add_one_of_lt' (by omega)
    omega

/-! ### Each operation keeps the invariant -/

@[simp] theorem countSilence_boot (bound : Nat) (dflt : Byte) (s : State) :
    (countSilence bound dflt s).boot = s.boot := by
  obtain ⟨-, e⟩ | ⟨-, e⟩ := countSilence_cases bound dflt s <;> rw [e]

section
variable {s : State} (hs : s.Inv)
include hs

theorem bootSequence_inv (dflt : Byte) (lv : Levels) : (bootSequence dflt lv s).Inv :=
  { hs with running := fun _ => ⟨rfl, rfl, rfl, rfl⟩, stopped := nofun }

theorem setSpeedSetup_inv (ready : hostReady s = true) (h : Header) : (setSpeedSetup h s).Inv := by
  obtain ⟨run, no_callback, -⟩ := hostReady_iff.1 ready
  obtain ⟨-, -, e⟩ | ⟨-, -, e⟩ | ⟨-, e⟩ := setSpeedSetup_cases s h <;> rw [e]
  · exact hs.withMain run nofun (absurd no_callback)
  · exact { hs with }
  · exact { hs with }

theorem getSpeedSetup_inv (ready : hostReady s = true) (h : Header) : (getSpeedSetup h s).Inv := by
  obtain ⟨run, -⟩ := hostReady_iff.1 ready
  obtain ⟨-, e⟩ | ⟨-, e⟩ := getSpeedSetup_cases s h <;> rw [e]
  · exact hs.withMain run nofun fun _ => rfl
  · exact { hs with }

theorem getTachoSetup_inv (ready : hostReady s = true) (h : Header) : (getTachoSetup h s).Inv := by
  obtain ⟨run, no_callback, -⟩ := hostReady_iff.1 ready
  obtain ⟨-, e⟩ | ⟨-, e⟩ := getTachoSetup_cases s h <;> rw [e]
  · exact hs.withMain run (designated_within_length _ _) (absurd no_callback)
  · exact { hs with }

theorem defaultSetup_inv (ready : hostReady s = true) : (defaultSetup s).Inv := by
  obtain ⟨run, -⟩ := hostReady_iff.1 ready
  exact hs.withMain run nofun fun _ => rfl

theorem setupResult_inv (ready : hostReady s = true) (r : Request) : (setupResult r s).Inv := by
  cases r with
  | standard => exact hs
  | setSpeed h => exact setSpeedSetup_inv hs ready h
  | getSpeed h => exact getSpeedSetup_inv hs ready h
  | getTacho h => exact getTachoSetup_inv hs ready h
  | vendorOther | classType | reservedType => exact defaultSetup_inv hs ready

theorem dataStage_inv (ready : hostReady s = true) (bytes : List Byte) : (dataStage bytes s).Inv := by
  obtain ⟨run, -⟩ := hostReady_iff.1 ready
  obtain ⟨-, e⟩ | ⟨-, -, e⟩ | ⟨_, _, _, _, -, -, e⟩ := dataStage_cases s bytes <;> rw [e]
  · exact hs
  · exact { hs with }
  · exact hs.withMain run nofun fun _ => rfl

theorem readResponse_inv (ready : hostReady s = true) : (readResponse s).Inv := by
  obtain ⟨run, no_callback, -⟩ := hostReady_iff.1 ready
  obtain ⟨src, len, sent, responding, e⟩ | ⟨-, e⟩ := readResponse_cases s <;> rw [e]
  · obtain ⟨-, unread⟩ := hs.response src len sent responding
    exact hs.withMain run (advanced_within_length src unread) (absurd no_callback)
  · exact { hs with }

theorem endTransfer_inv (ready : hostReady s = true) : State.Inv { s with ctl := .idle } := by
  obtain ⟨run, -⟩ := hostReady_iff.1 ready
  exact hs.withMain run nofun fun _ => rfl

theorem copyDutyByte_inv {k : Channel} {len : Fin 5} (copying : s.mainOp = .gsCopy k len) :
    (copyDutyByte s (k, len)).Inv := by
  have pending : s.mainOp ≠ .none := by simp [copying]
  have run := hs.boot_of_mainOp pending
  obtain ⟨-, e⟩ | ⟨-, e⟩ := copyDutyByte_cases s k len <;> rw [e]
  · exact hs.withMain run hs.response fun _ => hs.callback pending
  · exact hs.withMain run (designated_within_length _ _) (absurd rfl)

theorem startWrites_inv {b : Bank} (accepted : s.mainOp = .ssReset b) : (startWrites s b).Inv := by
  have pending : s.mainOp ≠ .none := by simp [accepted]
  have run := hs.boot_of_mainOp pending
  have kicked : (kickSilence s).Inv := hs.withSilence run (Nat.zero_le _)
  exact kicked.withMain run hs.response fun _ => hs.callback pending

theorem writeDutyByte_inv {k : Channel} {b : Bank} (writing : s.mainOp = .ssWrite k b) :
    (writeDutyByte s (k, b)).Inv := by
  have pending : s.mainOp ≠ .none := by simp [writing]
  exact hs.withMain (hs.boot_of_mainOp pending) hs.response fun _ => hs.callback pending

theorem samplePins_inv (ready : canTake .pinChange s = true) (lv : Levels) : (samplePins lv s).Inv := by
  obtain ⟨run, -⟩ := canTake_pinChange_iff.1 ready
  exact hs.withHandler run hs.copying hs.clearing

theorem enterInterrupt_tick_inv (ready : canTake .tick s = true) : (enterInterrupt .tick s).Inv := by
  obtain ⟨run, -⟩ := canTake_tick_iff.1 ready
  exact hs.withHandler run (by rintro _ ⟨⟩; decide) nofun

theorem copyChannel_inv {done : ChannelSet} (copying : s.tick = .copy done) (k : Channel) :
    (copyChannel k s done).Inv := by
  have run := hs.boot_of_tick (by simp [copying])
  by_cases all : addChannel done k = allChannels
  · simp only [copyChannel, all, if_true]
    exact hs.withHandler run nofun (by rintro _ ⟨⟩; decide)
  · simp only [copyChannel, all, if_false]
    exact hs.withHandler run (by rintro _ ⟨⟩; exact all) nofun

theorem clearChannel_inv {done : ChannelSet} (clearing : s.tick = .clear done) (k : Channel) :
    (clearChannel k s done).Inv := by
  have run := hs.boot_of_tick (by simp [clearing])
  by_cases all : addChannel done k = allChannels
  · simp only [clearChannel, all, if_true]
    exact hs.withHandler run nofun nofun
  · simp only [clearChannel, all, if_false]
    exact hs.withHandler run nofun (by rintro _ ⟨⟩; exact all)

/-- The count starts again at 0 where one more would pass the bound (R100, R105). -/
theorem countSilence_inv (run : s.boot = .run) (dflt : Byte) :
    (countSilence Config.silenceBound.val dflt s).Inv := by
  obtain ⟨-, e⟩ | ⟨within, e⟩ := countSilence_cases Config.silenceBound.val dflt s <;> rw [e]
  · exact hs.withSilence run (Nat.zero_le _)
  · exact hs.withSilence run within

theorem returnFromInterrupt_tick_inv (run : s.boot = .run) : (returnFromInterrupt .tick s).Inv :=
  hs.withHandler run nofun nofun

/-! ### Every event and every step keep the invariant -/

theorem exec_inv {i : Instr} {t : State} (h : exec i s = .next t) : t.Inv := by
  have effect := effect_of_next h
  cases i with
  | standard => exact effect.2 ▸ hs
  | setSpeed hd => exact effect.2 ▸ setSpeedSetup_inv hs effect.1 hd
  | getSpeed hd => exact effect.2 ▸ getSpeedSetup_inv hs effect.1 hd
  | getTacho hd => exact effect.2 ▸ getTachoSetup_inv hs effect.1 hd
  | vendorOther | classType | reservedType => exact effect.2 ▸ defaultSetup_inv hs effect.1
  | setup p => exact effect.2 ▸ setupResult_inv hs effect.1 (decodeRequest p)
  | reset => cases h; exact (resetBlock_inv _ _ _ s).withEventSource s.inbox _
  | boot lv => exact effect.2 ▸ bootSequence_inv hs _ lv
  | data bytes => exact effect.2 ▸ dataStage_inv hs effect.1 bytes
  | inRead => exact effect.2 ▸ readResponse_inv hs effect.1
  | busReset => exact effect.2 ▸ endTransfer_inv hs effect.1
  | gsCopy =>
    obtain ⟨k, len, copying, -, rfl⟩ := effect
    exact copyDutyByte_inv hs copying
  | ssReset =>
    obtain ⟨b, accepted, -, rfl⟩ := effect
    exact startWrites_inv hs accepted
  | ssWrite =>
    obtain ⟨k, b, writing, -, rfl⟩ := effect
    exact writeDutyByte_inv hs writing
  | pinChange lv => exact effect.2 ▸ samplePins_inv hs effect.1 lv
  | tickEnter => exact effect.2 ▸ enterInterrupt_tick_inv hs effect.1
  | tickCopy k =>
    obtain ⟨done, copying, -, rfl⟩ := effect
    exact copyChannel_inv hs copying k
  | tickClear k =>
    obtain ⟨done, clearing, -, rfl⟩ := effect
    exact clearChannel_inv hs clearing k
  | tickWd =>
    have run := hs.boot_of_tick (by simp [effect.1])
    exact effect.2 ▸ returnFromInterrupt_tick_inv (countSilence_inv hs run _) (by rw [countSilence_boot, run])

end

/-- What a step can do: take its event from `inbox` or from a draw, and no more, or run it. -/
theorem step_cases {s t : State} (h : step s = .next t) :
    ∃ ds n, t = { s with inbox := ds, draws := n } ∨ ∃ i, exec i { s with inbox := ds, draws := n } = .next t := by
  cases hin : s.inbox with
  | nil =>
    rw [step, nextEvent_of_no_delivery hin] at h
    cases offered : offeredEvent s with
    | none => rw [offered] at h; cases h; exact ⟨s.inbox, s.draws + 1, .inl rfl⟩
    | some i => rw [offered] at h; exact ⟨s.inbox, s.draws + 1, .inr ⟨i, h⟩⟩
  | cons d rest =>
    cases decoded : decode d with
    | ok i => exact ⟨rest, s.draws, .inr ⟨i, stepRunsDecodedEvent s d rest i hin decoded ▸ h⟩⟩
    | error e => rw [step, nextEvent_of_decode_error hin decoded] at h; cases h

/-- Settles O32: where a step takes its event from is nothing to the invariant, and the event keeps it. -/
theorem stepKeepsInvariants : Obligations.StepKeepsInvariants := by
  intro s t hs h
  obtain ⟨ds, n, rfl | ⟨i, hi⟩⟩ := step_cases h
  · exact hs.withEventSource ds n
  · exact exec_inv (hs.withEventSource ds n) hi

/-! ### Reachable states -/

theorem Reachable.inv {s : State} (h : Reachable s) : s.Inv := by
  induction h with
  | start => exact resetMeetsInvariants
  | deliver ds _ hs => exact hs.withEventSource ds _
  | step _ hstep hs => exact stepKeepsInvariants _ _ hs hstep

/-- Settles O33: what the invariant says of a running block; `len <= 4` is its type. -/
theorem reachableRunningStates : Obligations.ReachableRunningStates := by
  intro s reachable run
  have hs := reachable.inv
  refine ⟨hs.running run, fun src len sent responding => ?_, hs.callback, hs.silence⟩
  obtain ⟨has_byte, unread⟩ := hs.response src len sent responding
  exact ⟨has_byte, Nat.le_of_lt_succ len.isLt, unread⟩

end Sys2Proof.Machine
end

section
/-! PROOFS. Decoder and encoder: the key's fields (O4), the class table (O3), no bit of a packet lost (O2), the round
trip of instructions (O1), words of the spec (O6). -/

namespace Sys2Proof

/-! ### The decode key (R62) -/

theorem SetupPacket.key_eq_append (p : SetupPacket) : p.key = p.b1 ++ p.b0 := by
  rw [BitVec.append_def, BitVec.shiftLeftZeroExtend_eq]; rfl

/-- Settles O4: the key is `bRequest` above `bmRequestType`, whose fields are R61's. -/
theorem keyFields : Obligations.KeyFields := by
  intro p
  rw [SetupPacket.key_eq_append]
  have low {start len : Nat} (h : start + len ≤ 8) :
      (p.b1 ++ p.b0).extractLsb' start len = p.b0.extractLsb' start len :=
    BitVec.extractLsb'_append_eq_of_add_le h
  refine ⟨p.key_eq_append.symm, BitVec.extractLsb'_append_eq_left, ?_, low (by decide), low (by decide)⟩
  have dir_bit : (p.b1 ++ p.b0).getLsbD 7 = p.b0.getLsbD 7 := by rw [BitVec.getLsbD_append]; rfl
  rw [dir_bit, SetupPacket.header, SetupPacket.direction]
  cases p.b0.getLsbD 7 <;> simp

theorem append_eq_append_iff {m n : Nat} {x x' : BitVec m} {y y' : BitVec n} :
    x ++ y = x' ++ y' ↔ x = x' ∧ y = y' := by
  refine ⟨fun h => ⟨?_, ?_⟩, fun ⟨hx, hy⟩ => hx ▸ hy ▸ rfl⟩
  · simpa [BitVec.extractLsb'_append_eq_left] using congrArg (BitVec.extractLsb' n m) h
  · simpa [BitVec.extractLsb'_append_eq_right] using congrArg (BitVec.extractLsb' 0 n) h

/-- The mask 0x60 leaves the type bits of `bmRequestType` (R61). -/
theorem and_typeBits_eq_iff (b : Byte) (type : BitVec 2) :
    b &&& 0x60#8 = type.zeroExtend 8 <<< 5 ↔ b.extractLsb' 5 2 = type := by
  revert b type; decide

/-- What the mask of R63's rows 1, 5, 6 and 7 compares. -/
theorem SetupPacket.key_and_typeMask_eq_iff (p : SetupPacket) (type : BitVec 2) :
    p.key &&& 0x0060#16 = 0#8 ++ (type.zeroExtend 8 <<< 5) ↔ p.reqType = type := by
  rw [key_eq_append, show 0x0060#16 = 0#8 ++ 0x60#8 from rfl, BitVec.and_append, append_eq_append_iff,
    and_typeBits_eq_iff, BitVec.and_zero, eq_self, true_and, reqType]

/-- What the mask of R63's rows 2, 3 and 4 compares. -/
theorem SetupPacket.key_and_fullMask_eq_iff (p : SetupPacket) (req : Byte) (type : BitVec 2) :
    p.key &&& 0xFF60#16 = req ++ (type.zeroExtend 8 <<< 5) ↔ p.b1 = req ∧ p.reqType = type := by
  rw [key_eq_append, show 0xFF60#16 = BitVec.allOnes 8 ++ 0x60#8 from rfl, BitVec.and_append,
    append_eq_append_iff, and_typeBits_eq_iff, BitVec.and_allOnes, reqType]

/-! ### The class of a packet (R63) -/

/-- What the decoder can answer, and for which packets: one case per row of R63, no two of one packet. -/
theorem decodeRequest_cases (p : SetupPacket) :
    (p.reqType = 0 ∧ decodeRequest p = .standard p.b1 p.header) ∨
    (p.reqType = 2 ∧ p.b1 = 1 ∧ decodeRequest p = .setSpeed p.header) ∨
    (p.reqType = 2 ∧ p.b1 = 2 ∧ decodeRequest p = .getSpeed p.header) ∨
    (p.reqType = 2 ∧ p.b1 = 3 ∧ decodeRequest p = .getTacho p.header) ∨
    (p.reqType = 2 ∧ p.b1 ≠ 1#8 ∧ p.b1 ≠ 2#8 ∧ p.b1 ≠ 3#8 ∧ decodeRequest p = .vendorOther p.b1 p.header) ∨
    (p.reqType = 1 ∧ decodeRequest p = .classType p.b1 p.header) ∨
    (p.reqType = 3 ∧ decodeRequest p = .reservedType p.b1 p.header) := by
  have types : ∀ t : BitVec 2, t = 0 ∨ t = 2 ∨ t = 1 ∨ t = 3 := by decide
  obtain ht | ht | ht | ht := types p.reqType
  · simp [decodeRequest, ht]
  · by_cases h1 : p.b1 = 1#8
    · simp [decodeRequest, ht, h1]
    by_cases h2 : p.b1 = 2#8
    · simp [decodeRequest, ht, h2]
    by_cases h3 : p.b1 = 3#8
    · simp [decodeRequest, ht, h3]
    simp [decodeRequest, ht, h1, h2, h3]
  · simp [decodeRequest, ht]
  · simp [decodeRequest, ht]

/-- Settles O3: each row's mask compares the type, and `bRequest` in rows 2 to 4, with what the row's class has. -/
theorem decoderFollowsClassTable : Obligations.DecoderFollowsClassTable := by
  intro p
  have standard : p.key &&& 0x0060#16 = 0x0000#16 ↔ p.reqType = 0 := p.key_and_typeMask_eq_iff 0
  have setSpeed : p.key &&& 0xFF60#16 = 0x0140#16 ↔ p.b1 = 1 ∧ p.reqType = 2 := p.key_and_fullMask_eq_iff 1 2
  have getSpeed : p.key &&& 0xFF60#16 = 0x0240#16 ↔ p.b1 = 2 ∧ p.reqType = 2 := p.key_and_fullMask_eq_iff 2 2
  have getTacho : p.key &&& 0xFF60#16 = 0x0340#16 ↔ p.b1 = 3 ∧ p.reqType = 2 := p.key_and_fullMask_eq_iff 3 2
  have vendorOther : p.key &&& 0x0060#16 = 0x0040#16 ↔ p.reqType = 2 := p.key_and_typeMask_eq_iff 2
  have classType : p.key &&& 0x0060#16 = 0x0020#16 ↔ p.reqType = 1 := p.key_and_typeMask_eq_iff 1
  have reservedType : p.key &&& 0x0060#16 = 0x0060#16 ↔ p.reqType = 3 := p.key_and_typeMask_eq_iff 3
  simp only [standard, setSpeed, getSpeed, getTacho, vendorOther, classType, reservedType]
  obtain ⟨ht, e⟩ | ⟨ht, hb, e⟩ | ⟨ht, hb, e⟩ | ⟨ht, hb, e⟩ | ⟨ht, h1, h2, h3, e⟩ | ⟨ht, e⟩ | ⟨ht, e⟩ :=
    decodeRequest_cases p <;> rw [e]
  · simp [Request.row, ht]
  · simp [Request.row, ht, hb]
  · simp [Request.row, ht, hb]
  · simp [Request.row, ht, hb]
  · simp [Request.row, ht, h1, h2, h3]
  · simp [Request.row, ht]
  · simp [Request.row, ht]

/-! ### A packet is encoded back to itself (R79) -/

theorem bmRequestType_of_fields (b : Byte) :
    dirBit (if b.getLsbD 7 then .deviceToHost else .hostToDevice) ++ b.extractLsb' 5 2 ++ b.extractLsb' 0 5 = b := by
  revert b; decide

/-- The fields of R60 and R61 hold every bit of a packet. -/
theorem packetOf_fields (p : SetupPacket) : packetOf p.reqType p.b1 p.header = p := by
  have low (l h : Byte) : (fieldOf l h).extractLsb' 0 8 = l := BitVec.extractLsb'_append_eq_right
  have high (l h : Byte) : (fieldOf l h).extractLsb' 8 8 = h := BitVec.extractLsb'_append_eq_left
  have type_byte : dirBit p.direction ++ p.reqType ++ p.b0.extractLsb' 0 5 = p.b0 := bmRequestType_of_fields p.b0
  simp [packetOf, SetupPacket.header, low, high, type_byte]

theorem encode_decodeRequest (p : SetupPacket) :
    encode (decodeRequest p).toInstr = .packet (packetOf p.reqType p.b1 p.header).bytes := by
  obtain ⟨ht, e⟩ | ⟨ht, hb, e⟩ | ⟨ht, hb, e⟩ | ⟨ht, hb, e⟩ | ⟨ht, -, -, -, e⟩ | ⟨ht, e⟩ | ⟨ht, e⟩ :=
    decodeRequest_cases p <;> rw [e, ht]
  · rfl
  · rw [hb]; rfl
  · rw [hb]; rfl
  · rw [hb]; rfl
  · rfl
  · rfl
  · rfl

/-- Settles O2: the class keeps every field of the packet, and the fields every bit. -/
theorem everyPacketDecodesWithoutLoss : Obligations.EveryPacketDecodesWithoutLoss :=
  fun p => ⟨decode_packet_bytes p, by rw [encode_decodeRequest, packetOf_fields]⟩

/-! ### The round trip of instructions -/

/-- Settles O1: by the cases of the instruction. -/
theorem decodeEncodeRoundTrip : Obligations.DecodeEncodeRoundTrip :=
  fun _ => decode_encode

/-- Settles O6: the decoder computes. -/
theorem sampleWordsDecode : Obligations.SampleWordsDecode := by
  unfold Obligations.SampleWordsDecode; decide

end Sys2Proof
end

section
/-! PROOFS. The decoder gives well-formed instructions only (O7): of all events, VENDOR_OTHER alone can be ill-formed. -/

namespace Sys2Proof

/-- Whatever the decoder's part answers is well formed. -/
def GivesWellFormed (answer : Except DecodeError Instr) : Prop := ∀ i, answer = .ok i → i.WellFormed

theorem decodeRequest_wellFormed (p : SetupPacket) : (decodeRequest p).toInstr.WellFormed := by
  obtain ⟨-, e⟩ | ⟨-, -, e⟩ | ⟨-, -, e⟩ | ⟨-, -, e⟩ | ⟨-, h1, h2, h3, e⟩ | ⟨-, e⟩ | ⟨-, e⟩ :=
    decodeRequest_cases p <;> rw [e]
  · rfl
  · rfl
  · rfl
  · rfl
  · simp [Request.toInstr, Instr.WellFormed, Instr.wellFormed, h1, h2, h3]
  · rfl
  · rfl

theorem givesWellFormed_ok {i : Instr} (h : i.WellFormed) : GivesWellFormed (.ok i) := by
  rintro _ ⟨⟩; exact h

theorem givesWellFormed_error (e : DecodeError) : GivesWellFormed (.error e) := nofun

theorem GivesWellFormed.ite {c : Prop} [Decidable c] {a b : Except DecodeError Instr} (ha : GivesWellFormed a)
    (hb : GivesWellFormed b) : GivesWellFormed (if c then a else b) := by
  split <;> assumption

theorem decodePacket_givesWellFormed (bytes : List Byte) : GivesWellFormed (decodePacket bytes) := by
  rw [decodePacket]
  cases packetOfBytes bytes with
  | some p => exact givesWellFormed_ok (decodeRequest_wellFormed p)
  | none => exact givesWellFormed_error _

theorem noArgument_givesWellFormed {i : Instr} (h : i.WellFormed) (args : List (List Byte)) :
    GivesWellFormed (noArgument i args) := by
  cases args with
  | nil => exact givesWellFormed_ok h
  | cons => exact givesWellFormed_error _

theorem oneArgument_givesWellFormed {α : Type} {f : α → Instr} (h : ∀ a, (f a).WellFormed)
    (read : List Byte → Option α) (args : List (List Byte)) : GivesWellFormed (oneArgument f read args) := by
  match args with
  | [w] =>
    rw [oneArgument]
    cases read w with
    | some a => exact givesWellFormed_ok (h a)
    | none => exact givesWellFormed_error _
  | [] | _ :: _ :: _ => exact givesWellFormed_error _

theorem setupArguments_givesWellFormed (args : List (List Byte)) : GivesWellFormed (setupArguments args) := by
  rw [setupArguments]
  cases readHexBytes args with
  | none => exact givesWellFormed_error _
  | some bs =>
    dsimp only
    cases packetOfBytes bs with
    | some p => exact givesWellFormed_ok (i := .setup p) rfl
    | none => exact givesWellFormed_error _

theorem dataArguments_givesWellFormed (args : List (List Byte)) : GivesWellFormed (dataArguments args) := by
  rw [dataArguments]
  cases readHexBytes args with
  | some bs => exact givesWellFormed_ok (i := .data bs) rfl
  | none => exact givesWellFormed_error _

/-- No line of the text is a VENDOR_OTHER: the cases stand in the order of the decoder's keywords (R76). -/
theorem decodeWords_givesWellFormed (ws : List (List Byte)) : GivesWellFormed (decodeWords ws) := by
  cases ws with
  | nil => exact givesWellFormed_error _
  | cons kw args =>
    have event {i : Instr} (h : i.WellFormed) := noArgument_givesWellFormed h args
    have levelsEvent {f : Levels → Instr} (h : ∀ lv, (f lv).WellFormed) :=
      oneArgument_givesWellFormed h readLevels args
    have channelEvent {f : Channel → Instr} (h : ∀ k, (f k).WellFormed) :=
      oneArgument_givesWellFormed h readChannel args
    rw [decodeWords]
    exact .ite (event rfl) <| .ite (levelsEvent fun _ => rfl) <|
      .ite (setupArguments_givesWellFormed args) <| .ite (dataArguments_givesWellFormed args) <|
      .ite (event rfl) <| .ite (event rfl) <| .ite (levelsEvent fun _ => rfl) <| .ite (event rfl) <|
      .ite (channelEvent fun _ => rfl) <| .ite (channelEvent fun _ => rfl) <| .ite (event rfl) <|
      .ite (event rfl) <| .ite (event rfl) <| .ite (event rfl) (givesWellFormed_error _)

/-- Settles O7: packets by their class, lines by their words. -/
theorem decodedInstrWellFormed : Obligations.DecodedInstrWellFormed
  | .packet bytes => decodePacket_givesWellFormed bytes
  | .line text => decodeWords_givesWellFormed (wordsFrom [] text)

end Sys2Proof
end

section
/-! PROOFS. A delivered packet does what its class does (O40), and the class's effect reads `dir` and `wLength` alone (O5). -/

namespace Sys2Proof.Machine

/-- Settles O40: both are the shared step of a host event with the class's result. -/
theorem setupRunsItsClass : Obligations.SetupRunsItsClass :=
  fun p s => (execSetup_eq s p).trans (exec_request s (decodeRequest p)).symm

/-- Packets that agree in what R64 does not name have classes of one row and one effect. -/
theorem decodeRequest_agree {p q : SetupPacket} (htype : p.reqType = q.reqType) (hreq : p.b1 = q.b1)
    (hdir : p.header.dir = q.header.dir) (hlen : p.header.wLength = q.header.wLength) :
    (decodeRequest p).row = (decodeRequest q).row ∧
    ∀ s : State, setupResult (decodeRequest p) s = setupResult (decodeRequest q) s := by
  simp only [decodeRequest, htype, hreq]
  split_ifs
  · exact ⟨rfl, fun _ => rfl⟩
  · exact ⟨rfl, fun _ => by simp only [setupResult, setSpeedSetup, hdir, hlen]⟩
  · exact ⟨rfl, fun _ => by simp only [setupResult, getSpeedSetup, hdir, hlen]⟩
  · exact ⟨rfl, fun _ => by simp only [setupResult, getTachoSetup, hdir, hlen]⟩
  all_goals exact ⟨rfl, fun _ => rfl⟩

/-- Settles O5: `dir` and `wLength` are bit 7 of byte 0 and bytes 6 and 7 (R60, R61). -/
theorem ignoredSetupFields : Obligations.IgnoredSetupFields := by
  intro p q htype hdir hreq h6 h7
  have dir_eq : p.header.dir = q.header.dir := by simp only [SetupPacket.header, SetupPacket.direction, hdir]
  have len_eq : p.header.wLength = q.header.wLength := by simp only [SetupPacket.header, h6, h7]
  obtain ⟨row_eq, result_eq⟩ := decodeRequest_agree htype hreq dir_eq len_eq
  exact ⟨row_eq, fun s => by rw [execSetup_eq, execSetup_eq, result_eq]⟩

end Sys2Proof.Machine
end

section
/-! PROOFS. The PWM Output Driver: what writes a duty-cycle register (O16, O17, O18), and what an output carries (O19). -/

namespace Sys2Proof.Machine

/-! ### Its operations -/

/-- Settles O16: the write is a `Bank.set` of `duty`, the read its `Bank.get`. -/
theorem setDutyCycleWritesOneChannel : Obligations.SetDutyCycleWritesOneChannel := by
  intro k v s
  refine ⟨⟨s.duty.set k v, rfl, ?_, fun j other => ?_⟩, ?_⟩
  · exact Bank.get_set_self ..
  · exact Bank.get_set_of_ne other
  · exact memRead_memWrite_self .duty k v s

/-- Settles O17: the four writes of R83 leave nothing of the bank found. -/
theorem restoreWritesAllChannels : Obligations.RestoreWritesAllChannels :=
  fun _ _ => rfl

/-! ### Its outputs -/

theorem pwmOutput_of_not_configured {s : State} (h : s.pwmCfg = false) (k : Channel) : pwmOutput k s = none := by
  simp [pwmOutput, h]

theorem pwmOutput_of_configured {s : State} (h : s.pwmCfg = true) (k : Channel) :
    pwmOutput k s = some (s.duty.get k) := by
  simp [pwmOutput, h, getDutyCycle, memRead]

/-- Settles O19: a configured output carries its register (R85), one not configured nothing (R80). -/
theorem pwmOutputFollowsDuty : Obligations.PwmOutputFollowsDuty := by
  refine ⟨fun k s off => pwmOutput_of_not_configured off k, fun k s t hs ht same => ?_⟩
  rw [pwmOutput_of_configured hs, pwmOutput_of_configured ht, same]
  exact ⟨rfl, rfl⟩

/-! ### Who writes a duty-cycle register -/

/-- An event keeps every duty-cycle register, or is one of R84's writers or RESET (R150). -/
theorem duty_kept_or_written {i : Instr} {s t : State} (h : exec i s = .next t) :
    t.duty = s.duty ∨ i = .reset ∨ (∃ lv0, i = .boot lv0) ∨ i = .ssWrite ∨
      (i = .tickWd ∧ (s.silence + 1#8).toNat > Config.silenceBound.val) := by
  have effect := effect_of_next h
  cases i with
  | reset => exact .inr (.inl rfl)
  | boot lv0 => exact .inr (.inr (.inl ⟨lv0, rfl⟩))
  | ssWrite => exact .inr (.inr (.inr (.inl rfl)))
  | tickWd =>
    obtain ⟨-, rfl⟩ := effect
    obtain ⟨exceeds, -⟩ | ⟨-, counted⟩ := countSilence_cases Config.silenceBound.val Config.defaultDuty s
    · exact .inr (.inr (.inr (.inr ⟨rfl, exceeds⟩)))
    · exact .inl (by rw [counted])
  | setSpeed hd => exact .inl (effect.2 ▸ setupResult_duty (.setSpeed hd) s)
  | getSpeed hd => exact .inl (effect.2 ▸ setupResult_duty (.getSpeed hd) s)
  | getTacho hd => exact .inl (effect.2 ▸ setupResult_duty (.getTacho hd) s)
  | setup p => exact .inl (effect.2 ▸ setupResult_duty (decodeRequest p) s)
  | data bytes => exact .inl (effect.2 ▸ dataStage_duty bytes s)
  | inRead => exact .inl (effect.2 ▸ readResponse_duty s)
  | gsCopy =>
    obtain ⟨k, len, -, -, rfl⟩ := effect
    exact .inl (copyDutyByte_duty k len s)
  | ssReset =>
    obtain ⟨b, -, -, rfl⟩ := effect
    exact .inl rfl
  | tickCopy k | tickClear k =>
    obtain ⟨done, -, -, rfl⟩ := effect
    exact .inl rfl
  | standard | vendorOther | classType | reservedType | busReset | pinChange | tickEnter =>
    exact .inl (effect.2 ▸ rfl)

/-- Settles O18: every other event keeps `duty`. -/
theorem dutyWriters : Obligations.DutyWriters :=
  fun _ _ _ h changed => (duty_kept_or_written h).resolve_left changed

end Sys2Proof.Machine
end

section
/-! PROOFS. The Tachometer Sampler: its three events (O21, O22, O23), who writes its registers (O24), and what a commit reports (O25, O26). -/

namespace Sys2Proof.Machine

/-! ### Its three events -/

/-- Settles O21: the count is R89's, channel by channel. -/
theorem pinChangeRule : Obligations.PinChangeRule := by
  refine fun lv s => ⟨fun run ie pcie => ?_, fun disabled => ?_⟩
  · refine ⟨countEdges (risingEdges lv s.levels) s.pcnt, ?_, countEdges_get _ s.pcnt⟩
    exact stepWhen_eq_next.2 ⟨canTake_pinChange_iff.2 ⟨run, ie, pcie⟩, rfl⟩
  · exact stepWhen_eq_fault.2 ⟨Bool.eq_false_iff.2 (mt canTake_pinChange_iff.1 disabled), rfl⟩

theorem stepWith_fault_of_unready {α : Type} {ready : Option α} {why : Fault} {f : α → State}
    (unready : ∀ a, ready ≠ some a) : stepWith ready why f = .fault why :=
  stepWith_eq_fault.2 ⟨Option.eq_none_iff_forall_ne_some.2 unready, rfl⟩

/-- Settles O22: the copy is a `Bank.set` of `psnap`. -/
theorem tickCopyRule : Obligations.TickCopyRule := by
  refine fun k s => ⟨fun done copying uncopied => ?_, fun disabled => ?_⟩
  · have ready : tickCopyReady k s = some done := tickCopyReady_eq_some.2 ⟨copying, uncopied⟩
    exact ⟨s.psnap.set k (s.pcnt.get k), addChannel done k, stepWith_eq_next.2 ⟨done, ready, rfl⟩,
      Bank.get_set_self .., fun _ => Bank.get_set_of_ne, hasChannel_addChannel done k⟩
  · exact stepWith_fault_of_unready fun done h => disabled ⟨done, tickCopyReady_eq_some.1 h⟩

/-- Settles O23: the clear is a `Bank.set` of `pcnt`. -/
theorem tickClearRule : Obligations.TickClearRule := by
  refine fun k s => ⟨fun done clearing uncleared => ?_, fun disabled => ?_⟩
  · have ready : tickClearReady k s = some done := tickClearReady_eq_some.2 ⟨clearing, uncleared⟩
    exact ⟨s.pcnt.set k 0#8, addChannel done k, stepWith_eq_next.2 ⟨done, ready, rfl⟩,
      Bank.get_set_self .., fun _ => Bank.get_set_of_ne, hasChannel_addChannel done k⟩
  · exact stepWith_fault_of_unready fun done h => disabled ⟨done, tickClearReady_eq_some.1 h⟩

/-! ### What the other operations leave of its registers -/

/-- From `s` to `t` the three registers of the sampler are kept (R25, R26, R27). -/
def KeepsTacho (s t : State) : Prop := t.pcnt = s.pcnt ∧ t.psnap = s.psnap ∧ t.levels = s.levels

theorem keepsTacho_refl (s : State) : KeepsTacho s s := ⟨rfl, rfl, rfl⟩

theorem setupResult_keepsTacho (r : Request) (s : State) : KeepsTacho s (setupResult r s) := by
  obtain e | ⟨_, e⟩ | ⟨_, _, e⟩ | ⟨_, e⟩ := setupResult_cases s r <;> rw [e] <;> exact keepsTacho_refl s

theorem dataStage_keepsTacho (bytes : List Byte) (s : State) : KeepsTacho s (dataStage bytes s) := by
  obtain ⟨-, e⟩ | ⟨-, -, e⟩ | ⟨_, _, _, _, -, -, e⟩ := dataStage_cases s bytes <;> rw [e] <;> exact keepsTacho_refl s

theorem readResponse_keepsTacho (s : State) : KeepsTacho s (readResponse s) := by
  obtain ⟨_, _, _, -, e⟩ | ⟨-, e⟩ := readResponse_cases s <;> rw [e] <;> exact keepsTacho_refl s

theorem copyDutyByte_keepsTacho (k : Channel) (len : Fin 5) (s : State) :
    KeepsTacho s (copyDutyByte s (k, len)) := by
  obtain ⟨-, e⟩ | ⟨-, e⟩ := copyDutyByte_cases s k len <;> rw [e] <;> exact keepsTacho_refl s

theorem countSilence_keepsTacho (bound : Nat) (dflt : Byte) (s : State) :
    KeepsTacho s (countSilence bound dflt s) := by
  obtain ⟨-, e⟩ | ⟨-, e⟩ := countSilence_cases bound dflt s <;> rw [e] <;> exact keepsTacho_refl s

/-! ### Who writes its registers (R97) -/

/-- A MAIN step writes none of them. -/
theorem mainStep_keepsTacho {i : Instr} (main : isMainStep i = true) {s t : State} (h : exec i s = .next t) :
    KeepsTacho s t := by
  have effect := effect_of_next h
  cases i with
  | standard | vendorOther | classType | reservedType | busReset => exact effect.2 ▸ keepsTacho_refl s
  | setSpeed hd => exact effect.2 ▸ setupResult_keepsTacho (.setSpeed hd) s
  | getSpeed hd => exact effect.2 ▸ setupResult_keepsTacho (.getSpeed hd) s
  | getTacho hd => exact effect.2 ▸ setupResult_keepsTacho (.getTacho hd) s
  | setup p => exact effect.2 ▸ setupResult_keepsTacho (decodeRequest p) s
  | data bytes => exact effect.2 ▸ dataStage_keepsTacho bytes s
  | inRead => exact effect.2 ▸ readResponse_keepsTacho s
  | gsCopy =>
    obtain ⟨k, len, -, -, rfl⟩ := effect
    exact copyDutyByte_keepsTacho k len s
  | ssReset =>
    obtain ⟨b, -, -, rfl⟩ := effect
    exact keepsTacho_refl s
  | ssWrite =>
    obtain ⟨k, b, -, -, rfl⟩ := effect
    exact keepsTacho_refl s
  | reset | boot | pinChange | tickEnter | tickCopy | tickClear | tickWd => cases main

/-- How an event other than RESET writes the sampler's registers: these four write them, no other does. -/
theorem tacho_of_next {i : Instr} {s t : State} (h : exec i s = .next t) (hr : i ≠ .reset) :
    (∃ lv, i = .pinChange lv ∧ t.pcnt = countEdges (risingEdges lv s.levels) s.pcnt ∧
      t.psnap = s.psnap ∧ t.levels = lv) ∨
    (∃ lv0, i = .boot lv0 ∧ t.pcnt = s.pcnt ∧ t.psnap = s.psnap ∧ t.levels = lv0) ∨
    (∃ k, i = .tickCopy k ∧ t.pcnt = s.pcnt ∧ t.psnap = s.psnap.set k (s.pcnt.get k) ∧ t.levels = s.levels) ∨
    (∃ k, i = .tickClear k ∧ t.pcnt = s.pcnt.set k 0#8 ∧ t.psnap = s.psnap ∧ t.levels = s.levels) ∨
    ((∀ lv, i ≠ .pinChange lv) ∧ (∀ lv0, i ≠ .boot lv0) ∧ KeepsTacho s t) := by
  have effect := effect_of_next h
  cases i with
  | reset => exact absurd rfl hr
  | pinChange lv =>
    obtain ⟨-, rfl⟩ := effect
    exact .inl ⟨lv, rfl, rfl, rfl, rfl⟩
  | boot lv0 =>
    obtain ⟨-, rfl⟩ := effect
    exact .inr (.inl ⟨lv0, rfl, rfl, rfl, rfl⟩)
  | tickCopy k =>
    obtain ⟨done, -, -, rfl⟩ := effect
    exact .inr (.inr (.inl ⟨k, rfl, rfl, rfl, rfl⟩))
  | tickClear k =>
    obtain ⟨done, -, -, rfl⟩ := effect
    exact .inr (.inr (.inr (.inl ⟨k, rfl, rfl, rfl, rfl⟩)))
  | tickEnter => exact .inr (.inr (.inr (.inr ⟨nofun, nofun, effect.2 ▸ keepsTacho_refl s⟩)))
  | tickWd => exact .inr (.inr (.inr (.inr ⟨nofun, nofun, effect.2 ▸ countSilence_keepsTacho _ _ s⟩)))
  | _ => exact .inr (.inr (.inr (.inr ⟨nofun, nofun, mainStep_keepsTacho rfl h⟩)))

/-- R97 of one event, channel by channel. -/
theorem tacho_writers {i : Instr} {s t : State} (hr : i ≠ .reset) (h : exec i s = .next t) :
    (∀ k : Channel, (∀ lv, i ≠ .pinChange lv) → i ≠ .tickClear k → t.pcnt.get k = s.pcnt.get k) ∧
    (∀ k : Channel, i ≠ .tickCopy k → t.psnap.get k = s.psnap.get k) ∧
    ((∀ lv, i ≠ .boot lv) → (∀ lv, i ≠ .pinChange lv) → t.levels = s.levels) := by
  obtain ⟨lv, rfl, -, hpsnap, -⟩ | ⟨lv0, rfl, hpcnt, hpsnap, -⟩ | ⟨c, rfl, hpcnt, hpsnap, hlevels⟩ |
    ⟨c, rfl, hpcnt, hpsnap, hlevels⟩ | ⟨-, -, hpcnt, hpsnap, hlevels⟩ := tacho_of_next h hr
  · exact ⟨fun k no_pc _ => absurd rfl (no_pc lv), fun k _ => by rw [hpsnap], fun _ no_pc => absurd rfl (no_pc lv)⟩
  · exact ⟨fun k _ _ => by rw [hpcnt], fun k _ => by rw [hpsnap], fun no_boot _ => absurd rfl (no_boot lv0)⟩
  · refine ⟨fun k _ _ => by rw [hpcnt], fun k other => ?_, fun _ _ => hlevels⟩
    rw [hpsnap, Bank.get_set_of_ne]
    rintro rfl; exact other rfl
  · refine ⟨fun k _ other => ?_, fun k _ => by rw [hpsnap], fun _ _ => hlevels⟩
    rw [hpcnt, Bank.get_set_of_ne]
    rintro rfl; exact other rfl
  · exact ⟨fun k _ _ => by rw [hpcnt], fun k _ => by rw [hpsnap], fun _ _ => hlevels⟩

/-! ### A MAIN step does not read the running counts and the levels (R97) -/

/-- `s` with other running counts and levels. -/
def State.withPins (s : State) (pc : Bank) (lv : Levels) : State := { s with pcnt := pc, levels := lv }

@[simp] theorem State.withPins_ctl (s : State) (pc : Bank) (lv : Levels) : (s.withPins pc lv).ctl = s.ctl := rfl

section
variable (s : State) (pc : Bank) (lv : Levels)

theorem setupResult_withPins (r : Request) :
    setupResult r (s.withPins pc lv) = (setupResult r s).withPins pc lv := by
  cases r with
  | setSpeed h =>
    simp only [setupResult, setSpeedSetup]
    split_ifs <;> rfl
  | getSpeed h =>
    simp only [setupResult, getSpeedSetup]
    split_ifs <;> rfl
  | getTacho h =>
    simp only [setupResult, getTachoSetup]
    split_ifs <;> rfl
  | standard | vendorOther | classType | reservedType => rfl

theorem dataStage_withPins (bytes : List Byte) :
    dataStage bytes (s.withPins pc lv) = (dataStage bytes s).withPins pc lv := by
  simp only [dataStage, State.withPins_ctl]
  cases s.ctl with
  | outWait => cases payloadOf bytes <;> rfl
  | idle | inResp => rfl

/-- A response byte is read from `scratch` or `psnap` (R119). -/
theorem readResponse_withPins : readResponse (s.withPins pc lv) = (readResponse s).withPins pc lv := by
  simp only [readResponse, State.withPins_ctl]
  cases s.ctl with
  | inResp src len sent => cases src <;> rfl
  | idle | outWait => rfl

theorem copyDutyByte_withPins (a : Channel × Fin 5) :
    copyDutyByte (s.withPins pc lv) a = (copyDutyByte s a).withPins pc lv := by
  simp only [copyDutyByte]
  split_ifs <;> rfl

variable {s}

theorem stepWhen_withPins {ready : Bool} {why : Fault} {u u' t : State} (commutes : u' = u.withPins pc lv)
    (h : stepWhen ready why u = .next t) : stepWhen ready why u' = .next (t.withPins pc lv) := by
  obtain ⟨is_ready, rfl⟩ := stepWhen_eq_next.1 h
  exact stepWhen_eq_next.2 ⟨is_ready, commutes⟩

theorem stepWith_withPins {α : Type} {ready : Option α} {why : Fault} {f f' : α → State} {t : State}
    (commutes : ∀ a, f' a = (f a).withPins pc lv) (h : stepWith ready why f = .next t) :
    stepWith ready why f' = .next (t.withPins pc lv) := by
  obtain ⟨a, is_ready, rfl⟩ := stepWith_eq_next.1 h
  exact stepWith_eq_next.2 ⟨a, is_ready, commutes a⟩

theorem mainStep_withPins {i : Instr} (main : isMainStep i = true) {t : State} (h : exec i s = .next t) :
    exec i (s.withPins pc lv) = .next (t.withPins pc lv) := by
  cases i with
  | standard | vendorOther | classType | reservedType | busReset => exact stepWhen_withPins pc lv rfl h
  | setSpeed hd => exact stepWhen_withPins pc lv (setupResult_withPins s pc lv (.setSpeed hd)) h
  | getSpeed hd => exact stepWhen_withPins pc lv (setupResult_withPins s pc lv (.getSpeed hd)) h
  | getTacho hd => exact stepWhen_withPins pc lv (setupResult_withPins s pc lv (.getTacho hd)) h
  | setup p =>
    rw [execSetup_eq] at h ⊢
    exact stepWhen_withPins pc lv (setupResult_withPins s pc lv _) h
  | data bytes => exact stepWhen_withPins pc lv (dataStage_withPins s pc lv bytes) h
  | inRead => exact stepWhen_withPins pc lv (readResponse_withPins s pc lv) h
  | gsCopy => exact stepWith_withPins pc lv (copyDutyByte_withPins s pc lv) h
  | ssReset | ssWrite => exact stepWith_withPins pc lv (fun _ => rfl) h
  | reset | boot | pinChange | tickEnter | tickCopy | tickClear | tickWd => cases main

end

/-- Settles O24: every event by its effect, and a MAIN step by its commuting with other counts and levels. -/
theorem tachoSingleWriters : Obligations.TachoSingleWriters := by
  refine ⟨fun i s t => tacho_writers, fun i s t pc lv main h => ?_⟩
  obtain ⟨hpcnt, hpsnap, hlevels⟩ := mainStep_keepsTacho main h
  exact ⟨hpcnt, hlevels, hpsnap, mainStep_withPins pc lv main h⟩

/-! ### What a commit reports (R94, R96) -/

/-- TICKCOPY k alone writes `psnap[k]` (R97), so a run without it keeps the last committed count. -/
theorem psnap_kept_by_run {k : Channel} {evs : List Instr} {s u : State} (no_reset : Instr.reset ∉ evs)
    (no_copy : Instr.tickCopy k ∉ evs) (h : runEvents evs s = .next u) : u.psnap.get k = s.psnap.get k := by
  refine runEvents_preserves (P := fun v => v.psnap.get k = s.psnap.get k) (fun i hi v w hw kept => ?_) rfl h
  obtain ⟨-, hpsnap, -⟩ := tacho_writers (ne_of_mem_of_not_mem hi no_reset) hw
  exact (hpsnap k (ne_of_mem_of_not_mem hi no_copy)).trans kept

theorem edgesSeen_cons_of_not_sampled (k : Channel) (held : Levels) {i : Instr} (is : List Instr)
    (no_pc : ∀ lv, i ≠ .pinChange lv) (no_boot : ∀ lv0, i ≠ .boot lv0) :
    edgesSeen k held (i :: is) = edgesSeen k held is := by
  cases i with
  | pinChange lv => exact absurd rfl (no_pc lv)
  | boot lv0 => exact absurd rfl (no_boot lv0)
  | _ => rfl

/-- The loop invariant of a window: the count plus, modulo 256, the edges still to be seen (R94). -/
theorem count_add_edgesSeen_of_next {k : Channel} {i : Instr} (is : List Instr) {s t : State} (hr : i ≠ .reset)
    (no_clear : i ≠ .tickClear k) (h : exec i s = .next t) :
    t.pcnt.get k + BitVec.ofNat 8 (edgesSeen k t.levels is) =
      s.pcnt.get k + BitVec.ofNat 8 (edgesSeen k s.levels (i :: is)) := by
  obtain ⟨lv, rfl, hpcnt, -, hlevels⟩ | ⟨lv0, rfl, hpcnt, -, hlevels⟩ | ⟨c, rfl, hpcnt, -, hlevels⟩ |
    ⟨c, rfl, hpcnt, -, hlevels⟩ | ⟨no_pc, no_boot, hpcnt, -, hlevels⟩ := tacho_of_next h hr <;> rw [hpcnt, hlevels]
  · rw [countEdges_get, hasChannel_risingEdges, edgesSeen]
    split
    · rw [BitVec.ofNat_add, BitVec.add_assoc]
    · rw [Nat.zero_add]
  · rfl
  · rfl
  · rw [Bank.get_set_of_ne (by rintro rfl; exact no_clear rfl)]
    rfl
  · rw [edgesSeen_cons_of_not_sampled k s.levels is no_pc no_boot]

theorem pcnt_of_run {k : Channel} {evs : List Instr} {s u : State} (no_reset : Instr.reset ∉ evs)
    (no_clear : Instr.tickClear k ∉ evs) (h : runEvents evs s = .next u) :
    u.pcnt.get k = s.pcnt.get k + BitVec.ofNat 8 (edgesSeen k s.levels evs) := by
  induction evs generalizing s with
  | nil => cases h; simp [edgesSeen]
  | cons i is ih =>
    obtain ⟨v, hv, hrun⟩ := runEvents_cons_eq_next.1 h
    rw [List.mem_cons, not_or] at no_reset no_clear
    rw [ih no_reset.2 no_clear.2 hrun,
      count_add_edgesSeen_of_next is (Ne.symm no_reset.1) (Ne.symm no_clear.1) hv]

/-- TICKCOPY k finds channel k not yet copied, and commits its count (R91). -/
theorem psnap_of_tickCopy {k : Channel} {s t : State} (h : exec (.tickCopy k) s = .next t) :
    t.psnap.get k = s.pcnt.get k := by
  obtain ⟨done, -, -, rfl⟩ := effect_of_next h
  exact Bank.get_set_self ..

/-- Settles O25: the copy takes the count found, which the run has raised by the edges seen. -/
theorem windowCommitsEdgesSeen : Obligations.WindowCommitsEdgesSeen := by
  intro k evs s u t no_reset no_copy no_clear hrun hcopy
  exact ⟨(psnap_of_tickCopy hcopy).trans (pcnt_of_run no_reset no_clear hrun),
    psnap_kept_by_run no_reset no_copy hrun⟩

/-! ### Between the copy and the clear of a channel (R95, R158) -/

/-- The tick handler has copied channel k and not yet cleared it. -/
def AwaitsClear (k : Channel) : TickPhase → Prop
  | .copy done => hasChannel done k = true
  | .clear done => hasChannel done k = false
  | .idle | .wd => False

theorem awaitsClear_of_copied {k j : Channel} {done : ChannelSet} (copied : hasChannel (addChannel done j) k = true) :
    AwaitsClear k (if addChannel done j = allChannels then .clear noChannels else .copy (addChannel done j)) := by
  split
  · exact hasChannel_noChannels k
  · exact copied

theorem awaitsClear_after_tickCopy {k : Channel} {s t : State} (h : exec (.tickCopy k) s = .next t) :
    AwaitsClear k t.tick := by
  obtain ⟨done, -, -, rfl⟩ := effect_of_next h
  exact awaitsClear_of_copied (hasChannel_addChannel_self done k)

theorem AwaitsClear.not_tickCopy {k : Channel} {i : Instr} {s t : State} (awaits : AwaitsClear k s.tick)
    (h : exec i s = .next t) : i ≠ .tickCopy k := by
  rintro rfl
  obtain ⟨done, copying, uncopied, -⟩ := effect_of_next h
  rw [copying] at awaits
  exact Bool.false_ne_true (uncopied.symm.trans awaits)

/-- Only TICKCLEAR k and RESET end it: the handler does not leave its clear phase before (R92). -/
theorem AwaitsClear.of_next {k : Channel} {i : Instr} {s t : State} (awaits : AwaitsClear k s.tick)
    (hr : i ≠ .reset) (no_clear : i ≠ .tickClear k) (h : exec i s = .next t) : AwaitsClear k t.tick := by
  obtain ⟨-, before, -⟩ | ⟨j, done, -, before, after⟩ | ⟨j, done, rfl, before, after⟩ | ⟨-, before, -⟩ |
    ⟨-, -, -, -, kept⟩ := tick_of_next h hr
  · rw [before] at awaits; exact awaits.elim
  · rw [before] at awaits
    rw [after]
    exact awaitsClear_of_copied (by rw [hasChannel_addChannel, awaits, Bool.true_or])
  · rw [before] at awaits
    have other : k ≠ j := by rintro rfl; exact no_clear rfl
    have uncleared : hasChannel (addChannel done j) k = false := by
      rw [hasChannel_addChannel, awaits, decide_eq_false other, Bool.or_false]
    have not_all : addChannel done j ≠ allChannels := fun all => by
      rw [all, hasChannel_allChannels] at uncleared
      cases uncleared
    rw [after, if_neg not_all]
    exact uncleared
  · rw [before] at awaits; exact awaits.elim
  · rw [kept]; exact awaits

theorem psnap_kept_while_awaitsClear {k : Channel} {evs : List Instr} {s u : State} (no_reset : Instr.reset ∉ evs)
    (no_clear : Instr.tickClear k ∉ evs) (awaits : AwaitsClear k s.tick) (h : runEvents evs s = .next u) :
    AwaitsClear k u.tick ∧ u.psnap.get k = s.psnap.get k := by
  refine runEvents_preserves (P := fun v => AwaitsClear k v.tick ∧ v.psnap.get k = s.psnap.get k)
    (fun i hi v w hw ⟨still, kept⟩ => ?_) ⟨awaits, rfl⟩ h
  have hr := ne_of_mem_of_not_mem hi no_reset
  obtain ⟨-, hpsnap, -⟩ := tacho_writers hr hw
  exact ⟨still.of_next hr (ne_of_mem_of_not_mem hi no_clear) hw, (hpsnap k (still.not_tickCopy hw)).trans kept⟩

/-- Settles O26: a channel that awaits its clear is not copied again, and the clear leaves no count (R92). -/
theorem edgeBetweenCopyAndClearIsLost : Obligations.EdgeBetweenCopyAndClearIsLost := by
  intro k evs s s₁ u t no_reset no_clear hcopy hrun hclear
  obtain ⟨-, kept⟩ := psnap_kept_while_awaitsClear no_reset no_clear (awaitsClear_after_tickCopy hcopy) hrun
  obtain ⟨done, -, -, rfl⟩ := effect_of_next hclear
  exact ⟨kept.trans (psnap_of_tickCopy hcopy), Bank.get_set_self ..⟩

end Sys2Proof.Machine
end

section
/-! PROOFS. The periodic tick, the silence counter and the fail-safe: its two events (O27, O28), who writes the counter
(O29), its bound (O34), and when the fail-safe restores (O30). -/

namespace Sys2Proof.Machine

/-! ### Its two events -/

/-- Settles O27: the disabled case is the negation of the enabling rule. -/
theorem tickEnterRule : Obligations.TickEnterRule := by
  refine fun s => ⟨fun run ie armed idle => ?_, fun disabled => ?_⟩
  · exact stepWhen_eq_next.2 ⟨canTake_tick_iff.2 ⟨run, ie, armed, idle⟩, rfl⟩
  · exact stepWhen_eq_fault.2 ⟨Bool.eq_false_iff.2 (mt canTake_tick_iff.1 disabled), rfl⟩

theorem countSilence_of_exceeds {bound : Nat} {s : State} (exceeds : (s.silence + 1#8).toNat > bound) (dflt : Byte) :
    countSilence bound dflt s = { s with duty := Bank.fill dflt, silence := 0#8 } :=
  if_pos exceeds

theorem countSilence_of_within {bound : Nat} {s : State} (within : ¬ (s.silence + 1#8).toNat > bound) (dflt : Byte) :
    countSilence bound dflt s = { s with silence := s.silence + 1#8 } :=
  if_neg within

/-- Settles O28: the two branches of the silence count, each with the return from the handler. -/
theorem tickWdRule : Obligations.TickWdRule := by
  refine fun s => ⟨fun pending exceeds => ?_, fun pending within => ?_, fun disabled => ?_⟩
  · exact stepWhen_eq_next.2 ⟨tickWdReady_iff.2 pending, by rw [countSilence_of_exceeds exceeds]; rfl⟩
  · exact stepWhen_eq_next.2 ⟨tickWdReady_iff.2 pending, by rw [countSilence_of_within within]; rfl⟩
  · exact stepWhen_eq_fault.2 ⟨Bool.eq_false_iff.2 (mt tickWdReady_iff.1 disabled), rfl⟩

/-! ### Who writes the silence counter -/

/-- An event keeps `silence`, or is one of its three writers (R100, R113, R150). -/
theorem silence_kept_or_written {i : Instr} {s t : State} (h : exec i s = .next t) :
    t.silence = s.silence ∨ i = .tickWd ∨ i = .ssReset ∨ i = .reset := by
  have effect := effect_of_next h
  cases i with
  | tickWd => exact .inr (.inl rfl)
  | ssReset => exact .inr (.inr (.inl rfl))
  | reset => exact .inr (.inr (.inr rfl))
  | setSpeed hd => exact .inl (effect.2 ▸ setupResult_silence (.setSpeed hd) s)
  | getSpeed hd => exact .inl (effect.2 ▸ setupResult_silence (.getSpeed hd) s)
  | getTacho hd => exact .inl (effect.2 ▸ setupResult_silence (.getTacho hd) s)
  | setup p => exact .inl (effect.2 ▸ setupResult_silence (decodeRequest p) s)
  | data bytes => exact .inl (effect.2 ▸ dataStage_silence bytes s)
  | inRead => exact .inl (effect.2 ▸ readResponse_silence s)
  | gsCopy =>
    obtain ⟨k, len, -, -, rfl⟩ := effect
    exact .inl (copyDutyByte_silence k len s)
  | ssWrite =>
    obtain ⟨k, b, -, -, rfl⟩ := effect
    exact .inl rfl
  | tickCopy k | tickClear k =>
    obtain ⟨done, -, -, rfl⟩ := effect
    exact .inl rfl
  | standard | vendorOther | classType | reservedType | boot | busReset | pinChange | tickEnter =>
    exact .inl (effect.2 ▸ rfl)

/-- Settles O29: every other event keeps `silence`. -/
theorem silenceWriters : Obligations.SilenceWriters :=
  fun _ _ _ h changed => (silence_kept_or_written h).resolve_left changed

/-! ### Its bound (R105) -/

/-- With S at most 254 (D3) a count within the bound is one more without a carry out of its 8 bits. -/
theorem toNat_succ_of_within_bound {n : Byte} (within : n.toNat ≤ Config.silenceBound.val) :
    (n + 1#8).toNat = n.toNat + 1 := by
  have bound_lt : Config.silenceBound.val < 255 := Config.silenceBound.isLt
  exact BitVec.toNat_add_of_lt (show n.toNat + 1 < 2 ^ 8 by omega)

/-- Settles O34: the bound is part of the invariant, and below it the count does not wrap. -/
theorem silenceNeverExceedsBound : Obligations.SilenceNeverExceedsBound :=
  fun _ reachable => ⟨reachable.inv.silence, toNat_succ_of_within_bound reachable.inv.silence⟩

/-! ### When the fail-safe restores (R103) -/

/-- One event that does not kick the counter, while S is not passed: `silence` goes up by the tick it completes, if
any, and TICKWD does not restore. -/
theorem silence_and_duty_of_next {i : Instr} {s t : State} (no_kick : i ≠ .ssReset) (no_reset : i ≠ .reset)
    (within : s.silence.toNat + ticksCompleted [i] ≤ Config.silenceBound.val) (h : exec i s = .next t) :
    t.silence.toNat = s.silence.toNat + ticksCompleted [i] ∧
    (i ≠ .ssWrite → (∀ lv0, i ≠ .boot lv0) → t.duty = s.duty) := by
  by_cases tick : i = .tickWd
  · subst tick
    have one_tick : ticksCompleted [.tickWd] = 1 := rfl
    rw [one_tick] at within ⊢
    have succ : (s.silence + 1#8).toNat = s.silence.toNat + 1 := toNat_succ_of_within_bound (by omega)
    obtain ⟨-, rfl⟩ := effect_of_next h
    rw [countSilence_of_within (by omega)]
    exact ⟨succ, fun _ _ => rfl⟩
  · have no_tick : ticksCompleted [i] = 0 := List.count_singleton.trans (if_neg (by simpa using tick))
    have kept : t.silence = s.silence := (silence_kept_or_written h).resolve_right (by simp [tick, no_kick, no_reset])
    refine ⟨by rw [kept, no_tick, Nat.add_zero], fun no_write no_boot => ?_⟩
    exact (duty_kept_or_written h).resolve_right (by simp [tick, no_reset, no_write, no_boot])

/-- The loop invariant of a silence: the count plus the ticks still to complete does not change, up to S. -/
theorem silence_and_duty_of_run {evs : List Instr} {s t : State} (no_kick : Instr.ssReset ∉ evs)
    (no_reset : Instr.reset ∉ evs) (within : s.silence.toNat + ticksCompleted evs ≤ Config.silenceBound.val)
    (h : runEvents evs s = .next t) :
    t.silence.toNat = s.silence.toNat + ticksCompleted evs ∧
    (Instr.ssWrite ∉ evs → (∀ lv0, Instr.boot lv0 ∉ evs) → t.duty = s.duty) := by
  induction evs generalizing s with
  | nil => cases h; exact ⟨rfl, fun _ _ => rfl⟩
  | cons i is ih =>
    obtain ⟨u, hu, hrun⟩ := runEvents_cons_eq_next.1 h
    have ticks : ticksCompleted (i :: is) = ticksCompleted [i] + ticksCompleted is := ticksCompleted_append [i] is
    simp only [List.mem_cons, not_or] at no_kick no_reset ⊢
    obtain ⟨first_silence, first_duty⟩ :=
      silence_and_duty_of_next (Ne.symm no_kick.1) (Ne.symm no_reset.1) (by omega) hu
    obtain ⟨rest_silence, rest_duty⟩ := ih no_kick.2 no_reset.2 (by omega) hrun
    refine ⟨by omega, fun no_write no_boot => ?_⟩
    exact (rest_duty no_write.2 fun lv0 => (no_boot lv0).2).trans
      (first_duty (Ne.symm no_write.1) fun lv0 => Ne.symm (no_boot lv0).1)

/-- A TICKWD that finds `silence = S` restores (R100). -/
theorem tickWd_restores_at_bound {s t : State} (at_bound : s.silence.toNat = Config.silenceBound.val)
    (h : exec .tickWd s = .next t) :
    t.duty = ⟨Config.defaultDuty, Config.defaultDuty, Config.defaultDuty, Config.defaultDuty⟩ ∧ t.silence = 0#8 := by
  have succ : (s.silence + 1#8).toNat = s.silence.toNat + 1 := toNat_succ_of_within_bound at_bound.le
  obtain ⟨-, rfl⟩ := effect_of_next h
  rw [countSilence_of_exceeds (by omega)]
  exact ⟨rfl, rfl⟩

/-- Settles O30: from 0 the counter is the number of completed ticks up to S, where the next TICKWD restores. -/
theorem silenceProperty : Obligations.SilenceProperty := by
  intro evs s t silent no_kick no_reset hrun
  have run_effect (within : ticksCompleted evs ≤ Config.silenceBound.val) :
      t.silence.toNat = ticksCompleted evs ∧
      (Instr.ssWrite ∉ evs → (∀ lv0, Instr.boot lv0 ∉ evs) → t.duty = s.duty) := by
    have start : s.silence.toNat = 0 := by rw [silent]; rfl
    simpa only [start, Nat.zero_add] using silence_and_duty_of_run no_kick no_reset (by omega) hrun
  refine ⟨run_effect, fun all_ticks u hwd => ?_⟩
  exact tickWd_restores_at_bound ((run_effect all_ticks.le).1.trans all_ticks) hwd

end Sys2Proof.Machine
end

section
/-! PROOFS. The vendor requests: when a host event is enabled (O49), what each setup, data stage, read and callback
micro-step does (O35 to O39, O41, O43 to O48), what a setup ends (O42), and what the read requests leave alone (O50). -/

namespace Sys2Proof.Machine

/-! ### When a host event is enabled (R108) -/

theorem exec_hostEvent {i : Instr} (host : isHostEvent i = true) (s : State) :
    ∃ t, exec i s = stepWhen (hostReady s) .hostEventNotEnabled t := by
  cases i with
  | setup p => exact ⟨_, execSetup_eq s p⟩
  | standard | setSpeed | getSpeed | getTacho | vendorOther | classType | reservedType | data | inRead | busReset =>
    exact ⟨_, rfl⟩
  | reset | boot | gsCopy | ssReset | ssWrite | pinChange | tickEnter | tickCopy | tickClear | tickWd => cases host

/-- Settles O49: every host event is the one shared step with R108's rule. -/
theorem hostEventsNeedIdleMain : Obligations.HostEventsNeedIdleMain := by
  intro i s host
  obtain ⟨t, e⟩ := exec_hostEvent host s
  rw [e]
  refine ⟨fun ready => ⟨t, stepWhen_eq_next.2 ⟨hostReady_iff.2 ready, rfl⟩⟩, fun disabled => ?_⟩
  exact stepWhen_eq_fault.2 ⟨Bool.eq_false_iff.2 (mt hostReady_iff.1 disabled), rfl⟩

/-! ### What each branch of a setup does, by `dir` and `wLength` (R65, R66) -/

section
variable {h : Header} {s : State}

theorem setSpeedSetup_of_deviceToHost (dir : h.dir = .deviceToHost) :
    setSpeedSetup h s = { s with refused := some .dirMismatch } :=
  if_pos (by rw [dir]; decide)

theorem setSpeedSetup_of_wrong_length (dir : h.dir = .hostToDevice) (len : h.wLength ≠ 4#16) :
    setSpeedSetup h s = { s with refused := some .setLen } :=
  (if_neg (not_not.2 dir)).trans (if_pos len)

theorem setSpeedSetup_of_accepted (dir : h.dir = .hostToDevice) (len : h.wLength = 4#16) :
    setSpeedSetup h s = { s with ctl := .outWait, trace := s.trace ++ [.awaitOut] } :=
  (if_neg (not_not.2 dir)).trans (if_neg (not_not.2 len))

theorem getSpeedSetup_of_hostToDevice (dir : h.dir = .hostToDevice) :
    getSpeedSetup h s = { s with refused := some .dirMismatch } :=
  if_pos (by rw [dir]; decide)

theorem getSpeedSetup_of_deviceToHost (dir : h.dir = .deviceToHost) :
    getSpeedSetup h s = { s with ctl := .idle, mainOp := .gsCopy 0 (responseLength h.wLength) } :=
  if_neg (not_not.2 dir)

theorem getTachoSetup_of_hostToDevice (dir : h.dir = .hostToDevice) :
    getTachoSetup h s = { s with refused := some .dirMismatch } :=
  if_pos (by rw [dir]; decide)

theorem getTachoSetup_of_deviceToHost (dir : h.dir = .deviceToHost) :
    getTachoSetup h s = designate .snap (responseLength h.wLength) s :=
  if_neg (not_not.2 dir)

end

/-- A response is designated where it has a byte (R117, R118). -/
theorem designate_eq (src : RespSource) (len : Fin 5) (s : State) :
    designate src len s = { s with
      ctl := if len.val > 0 then .inResp src len 0 else .idle, trace := s.trace ++ [.resp len] } := by
  by_cases empty : len = 0
  · subst empty; rfl
  · have has_byte : len.val > 0 := Fin.pos_iff_ne_zero.2 empty
    rw [designate, if_neg empty, if_pos has_byte]; rfl

/-! ### The host events, where R108 enables them -/

section
variable {s : State} (run : s.boot = .run) (no_callback : s.mainOp = .none) (no_handler : s.tick = .idle)
include run no_callback no_handler

theorem hostStep_eq_next (t : State) : stepWhen (hostReady s) .hostEventNotEnabled t = .next t :=
  stepWhen_eq_next.2 ⟨hostReady_iff.2 ⟨run, no_callback, no_handler⟩, rfl⟩

theorem exec_request_eq_next (r : Request) : exec r.toInstr s = .next (setupResult r s) := by
  rw [exec_request, hostStep_eq_next run no_callback no_handler]

theorem exec_data_eq_next (bytes : List Byte) : exec (.data bytes) s = .next (dataStage bytes s) :=
  hostStep_eq_next run no_callback no_handler _

theorem exec_inRead_eq_next : exec .inRead s = .next (readResponse s) :=
  hostStep_eq_next run no_callback no_handler _

end

/-- Settles O35: by the three branches of the SET_SPEED setup. -/
theorem setSpeedSetupRule : Obligations.SetSpeedSetupRule := by
  intro h s run no_callback no_handler
  rw [show exec (.setSpeed h) s = .next (setSpeedSetup h s) from
    exec_request_eq_next run no_callback no_handler (.setSpeed h)]
  refine ⟨fun dir len => ?_, fun dir => ?_, fun dir len => ?_⟩
  · rw [setSpeedSetup_of_accepted dir len]
  · rw [setSpeedSetup_of_deviceToHost dir]
  · rw [setSpeedSetup_of_wrong_length dir len]

/-- Settles O36: by the two branches of the GET_SPEED setup. -/
theorem getSpeedSetupRule : Obligations.GetSpeedSetupRule := by
  intro h s run no_callback no_handler
  rw [show exec (.getSpeed h) s = .next (getSpeedSetup h s) from
    exec_request_eq_next run no_callback no_handler (.getSpeed h)]
  refine ⟨fun dir => ⟨responseLength h.wLength, responseLength_val _, ?_⟩, fun dir => ?_⟩
  · rw [getSpeedSetup_of_deviceToHost dir]
  · rw [getSpeedSetup_of_hostToDevice dir]

/-- Settles O37: by the two branches of the GET_TACHO setup. -/
theorem getTachoSetupRule : Obligations.GetTachoSetupRule := by
  intro h s run no_callback no_handler
  rw [show exec (.getTacho h) s = .next (getTachoSetup h s) from
    exec_request_eq_next run no_callback no_handler (.getTacho h)]
  refine ⟨fun dir => ⟨responseLength h.wLength, responseLength_val _, ?_⟩, fun dir => ?_⟩
  · rw [getTachoSetup_of_deviceToHost dir, designate_eq]
  · rw [getTachoSetup_of_hostToDevice dir]

/-- Settles O38: the three classes share the default setup (R121). -/
theorem defaultRequestRule : Obligations.DefaultRequestRule := by
  intro req h s run no_callback no_handler
  have request := exec_request_eq_next run no_callback no_handler
  exact ⟨request (.vendorOther req h), request (.classType req h), request (.reservedType req h)⟩

/-- Settles O39: the setup of a standard request is the state found (R126). -/
theorem standardRequestRule : Obligations.StandardRequestRule :=
  fun req h _ run no_callback no_handler => exec_request_eq_next run no_callback no_handler (.standard req h)

/-! ### SETUP, by the bytes of its packet (R110) -/

theorem exec_setup_of_class {p : SetupPacket} {r : Request} (decoded : decodeRequest p = r) (s : State) :
    exec (.setup p) s = exec r.toInstr s :=
  decoded ▸ setupRunsItsClass p s

section
variable {p : SetupPacket}

theorem header_dir_of_set (bit : p.b0.getLsbD 7 = true) : p.header.dir = .deviceToHost := if_pos bit

theorem header_dir_of_clear (bit : p.b0.getLsbD 7 = false) : p.header.dir = .hostToDevice :=
  if_neg (Bool.eq_false_iff.1 bit)

theorem decodeRequest_setSpeed (vendor : p.reqType = 2#2) (req : p.b1 = 1#8) :
    decodeRequest p = .setSpeed p.header := by
  simp [decodeRequest, vendor, req]

theorem decodeRequest_getSpeed (vendor : p.reqType = 2#2) (req : p.b1 = 2#8) :
    decodeRequest p = .getSpeed p.header := by
  simp [decodeRequest, vendor, req]

theorem decodeRequest_getTacho (vendor : p.reqType = 2#2) (req : p.b1 = 3#8) :
    decodeRequest p = .getTacho p.header := by
  simp [decodeRequest, vendor, req]

end

/-- Every packet of a class with the default setup (R63 rows 5 to 7, R121). -/
theorem exec_setup_of_default {p : SetupPacket} {s : State} (run : s.boot = .run) (no_callback : s.mainOp = .none)
    (no_handler : s.tick = .idle) (not_standard : p.reqType ≠ 0#2)
    (unnamed : p.reqType = 2#2 → p.b1 ≠ 1#8 ∧ p.b1 ≠ 2#8 ∧ p.b1 ≠ 3#8) :
    exec (.setup p) s = .next { s with ctl := .idle, trace := s.trace ++ [.resp 0] } := by
  obtain ⟨vendorOther, classType, reservedType⟩ :=
    defaultRequestRule p.b1 p.header s run no_callback no_handler
  obtain ⟨ht, -⟩ | ⟨ht, hb, -⟩ | ⟨ht, hb, -⟩ | ⟨ht, hb, -⟩ | ⟨-, -, -, -, e⟩ | ⟨-, e⟩ | ⟨-, e⟩ :=
    decodeRequest_cases p
  · exact absurd ht not_standard
  · obtain ⟨not_setSpeed, -, -⟩ := unnamed ht
    exact absurd hb not_setSpeed
  · obtain ⟨-, not_getSpeed, -⟩ := unnamed ht
    exact absurd hb not_getSpeed
  · obtain ⟨-, -, not_getTacho⟩ := unnamed ht
    exact absurd hb not_getTacho
  · exact (exec_setup_of_class e s).trans vendorOther
  · exact (exec_setup_of_class e s).trans classType
  · exact (exec_setup_of_class e s).trans reservedType

/-- Settles O41: by the rule of the packet's class, whose `dir` and `wLength` are bit 7 of byte 0 and bytes 6 and 7. -/
theorem setupRule : Obligations.SetupRule := by
  intro p s run no_callback no_handler
  obtain ⟨accepted, wrong_dir, wrong_length⟩ := setSpeedSetupRule p.header s run no_callback no_handler
  obtain ⟨speed, speed_refused⟩ := getSpeedSetupRule p.header s run no_callback no_handler
  obtain ⟨tacho, tacho_refused⟩ := getTachoSetupRule p.header s run no_callback no_handler
  refine ⟨fun type => ?standard, fun vendor req => ?setSpeed, fun vendor req bit => ?refused, fun vendor bit => ?read,
    exec_setup_of_default run no_callback no_handler⟩
  case standard =>
    have decoded : decodeRequest p = .standard p.b1 p.header := if_pos type
    exact (exec_setup_of_class decoded s).trans (standardRequestRule p.b1 p.header s run no_callback no_handler)
  case setSpeed =>
    rw [exec_setup_of_class (decodeRequest_setSpeed vendor req)]
    exact ⟨fun bit => wrong_dir (header_dir_of_set bit), fun bit => wrong_length (header_dir_of_clear bit),
      fun bit => accepted (header_dir_of_clear bit)⟩
  case refused =>
    obtain req | req := req
    · rw [exec_setup_of_class (decodeRequest_getSpeed vendor req)]
      exact speed_refused (header_dir_of_clear bit)
    · rw [exec_setup_of_class (decodeRequest_getTacho vendor req)]
      exact tacho_refused (header_dir_of_clear bit)
  case read =>
    obtain ⟨len, len_eq, speed_next⟩ := speed (header_dir_of_set bit)
    obtain ⟨len', len_eq', tacho_next⟩ := tacho (header_dir_of_set bit)
    obtain rfl : len' = len := Fin.ext (len_eq'.trans len_eq.symm)
    exact ⟨len', len_eq', fun req => (exec_setup_of_class (decodeRequest_getSpeed vendor req) s).trans speed_next,
      fun req => (exec_setup_of_class (decodeRequest_getTacho vendor req) s).trans tacho_next⟩

/-- A setup that is neither standard nor refused does not read the `ctl` it finds (R109). -/
theorem setupResult_withCtl {r : Request} {s : State} (not_standard : r.row ≠ 1)
    (unrefused : (setupResult r s).refused = none) (c : CtlState) :
    setupResult r { s with ctl := c } = setupResult r s := by
  cases r with
  | standard => exact absurd rfl not_standard
  | setSpeed h =>
    simp only [setupResult, setSpeedSetup] at unrefused ⊢
    split_ifs at unrefused ⊢ with wrong_dir wrong_length
    · cases unrefused
    · cases unrefused
    · rfl
  | getSpeed h =>
    simp only [setupResult, getSpeedSetup] at unrefused ⊢
    split_ifs at unrefused ⊢ with wrong_dir
    · cases unrefused
    · rfl
  | getTacho h =>
    simp only [setupResult, getTachoSetup] at unrefused ⊢
    split_ifs at unrefused ⊢ with wrong_dir
    · cases unrefused
    · rfl
  | vendorOther | classType | reservedType => rfl

/-- Settles O42: the result is that of the packet's class, which writes neither `duty` nor `silence`. -/
theorem newSetupEndsTransfer : Obligations.NewSetupEndsTransfer := by
  intro p s t c not_standard _ h unrefused
  rw [execSetup_eq] at h ⊢
  obtain ⟨ready, rfl⟩ := stepWhen_eq_next.1 h
  refine ⟨stepWhen_eq_next.2 ⟨ready, ?_⟩, setupResult_duty _ s, setupResult_silence _ s⟩
  exact setupResult_withCtl not_standard unrefused c

/-! ### The data stage, the reads and the bus reset -/

/-- Settles O43: by the three cases of a data stage. -/
theorem dataStageRule : Obligations.DataStageRule := by
  intro s run no_callback no_handler
  refine ⟨fun awaited h0 h1 h2 h3 => ?_, fun awaited bytes wrong => ?_, fun unawaited bytes => ?_⟩ <;>
    rw [exec_data_eq_next run no_callback no_handler]
  · simp only [dataStage, awaited, payloadOf]
  · obtain ⟨unawaited, -⟩ | ⟨-, -, e⟩ | ⟨_, _, _, _, -, rfl, -⟩ := dataStage_cases s bytes
    · exact absurd awaited unawaited
    · rw [e]
    · exact absurd rfl wrong
  · obtain ⟨-, e⟩ | ⟨awaited, -⟩ | ⟨_, _, _, _, awaited, -⟩ := dataStage_cases s bytes
    · rw [e]
    · exact absurd awaited unawaited
    · exact absurd awaited unawaited

/-- Settles O47: by the `ctl` found. -/
theorem inReadRule : Obligations.InReadRule := by
  intro s run no_callback no_handler
  rw [exec_inRead_eq_next run no_callback no_handler]
  refine ⟨fun len sent responding => ?_, fun len sent responding => ?_, fun no_response => ?_⟩
  · simp only [readResponse, responding]; rfl
  · simp only [readResponse, responding]; rfl
  · obtain none_designated | none_designated := no_response <;> simp only [readResponse, none_designated, raiseRefused]

/-- Settles O48: BUSRESET is a host event whose next state is R123's. -/
theorem busResetRule : Obligations.BusResetRule :=
  fun _ run no_callback no_handler => hostStep_eq_next run no_callback no_handler _

/-! ### The callback micro-steps -/

/-- Settles O44: the next state is the kick and the first write pending. -/
theorem ssResetRule : Obligations.SsResetRule := by
  refine fun s => ⟨fun b accepted idle => ?_, fun disabled => ?_⟩
  · exact stepWith_eq_next.2 ⟨b, ssResetReady_eq_some.2 ⟨accepted, idle⟩, rfl⟩
  · exact stepWith_fault_of_unready fun b h => disabled ⟨b, ssResetReady_eq_some.1 h⟩

/-- Settles O45: the write is a `Bank.set` of `duty`. -/
theorem ssWriteRule : Obligations.SsWriteRule := by
  refine fun s => ⟨fun k b writing idle => ?_, fun disabled => ?_⟩
  · have ready : ssWriteReady s = some (k, b) := ssWriteReady_eq_some.2 ⟨writing, idle⟩
    exact ⟨s.duty.set k (b.get k), Bank.get_set_self .., fun _ => Bank.get_set_of_ne,
      stepWith_eq_next.2 ⟨(k, b), ready, rfl⟩⟩
  · exact stepWith_fault_of_unready fun a h => disabled ⟨a.1, a.2, ssWriteReady_eq_some.1 h⟩

theorem copyDutyByte_of_not_last {k : Channel} (not_last : k.val < 3) (len : Fin 5) (s : State) :
    copyDutyByte s (k, len) =
      { s with scratch := s.scratch.set k (s.duty.get k), mainOp := .gsCopy (k + 1) len } :=
  if_pos not_last

theorem copyDutyByte_of_last {k : Channel} (last : ¬ k.val < 3) (len : Fin 5) (s : State) :
    copyDutyByte s (k, len) = { s with
      scratch := s.scratch.set k (s.duty.get k), mainOp := .none, trace := s.trace ++ [.resp len]
      ctl := if len.val > 0 then .inResp .scratch len 0 else .idle } :=
  (if_neg last).trans (designate_eq ..)

/-- Settles O46: the copy is a `Bank.set` of `scratch`, and its last byte designates the response. -/
theorem gsCopyRule : Obligations.GsCopyRule := by
  refine fun s => ⟨fun k len copying idle => ?_, fun disabled => ?_⟩
  · have ready : gsCopyReady s = some (k, len) := gsCopyReady_eq_some.2 ⟨copying, idle⟩
    have step : exec .gsCopy s = .next (copyDutyByte s (k, len)) := stepWith_eq_next.2 ⟨(k, len), ready, rfl⟩
    refine ⟨s.scratch.set k (s.duty.get k), Bank.get_set_self .., fun _ => Bank.get_set_of_ne,
      fun not_last => ?_, fun last => ?_⟩
    · rw [step, copyDutyByte_of_not_last not_last]
    · rw [step, copyDutyByte_of_last last]
  · exact stepWith_fault_of_unready fun a h => disabled ⟨a.1, a.2, gsCopyReady_eq_some.1 h⟩

/-! ### What the read requests write (R125) -/

/-- From `s` to `t` nothing is written but the transfer's own fields, the mark and the trace. -/
def WritesTransferOnly (s t : State) : Prop :=
  ∃ c op mark tr, t = { s with ctl := c, mainOp := op, refused := mark, trace := tr }

theorem setupResult_writesTransferOnly (r : Request) (s : State) : WritesTransferOnly s (setupResult r s) := by
  obtain e | ⟨_, e⟩ | ⟨_, _, e⟩ | ⟨_, e⟩ := setupResult_cases s r <;> exact ⟨_, _, _, _, e⟩

theorem readResponse_writesTransferOnly (s : State) : WritesTransferOnly s (readResponse s) := by
  obtain ⟨_, _, _, -, e⟩ | ⟨-, e⟩ := readResponse_cases s <;> exact ⟨_, _, _, _, e⟩

theorem copyDutyByte_writesTransferOnly (k : Channel) (len : Fin 5) (s : State) :
    WritesTransferOnly { s with scratch := s.scratch.set k (s.duty.get k) } (copyDutyByte s (k, len)) := by
  obtain ⟨-, e⟩ | ⟨-, e⟩ := copyDutyByte_cases s k len <;> exact ⟨_, _, _, _, e⟩

/-- Settles O50: setups and reads write the transfer's fields alone, and the copy `scratch` besides. -/
theorem getRequestsReadOnly : Obligations.GetRequestsReadOnly := by
  intro i s t reads h
  suffices ∃ sc, WritesTransferOnly { s with scratch := sc } t ∧ (i ≠ .gsCopy → sc = s.scratch) by
    obtain ⟨sc, ⟨_, _, _, _, rfl⟩, kept⟩ := this
    exact ⟨rfl, rfl, rfl, rfl, rfl, rfl, rfl, rfl, rfl, rfl, rfl, kept⟩
  have effect := effect_of_next h
  obtain ⟨hd, rfl | rfl | ⟨p, rfl, -⟩⟩ | rfl | rfl := reads
  · exact ⟨s.scratch, effect.2 ▸ setupResult_writesTransferOnly (.getSpeed hd) s, fun _ => rfl⟩
  · exact ⟨s.scratch, effect.2 ▸ setupResult_writesTransferOnly (.getTacho hd) s, fun _ => rfl⟩
  · exact ⟨s.scratch, effect.2 ▸ setupResult_writesTransferOnly (decodeRequest p) s, fun _ => rfl⟩
  · obtain ⟨k, len, -, -, rfl⟩ := effect
    exact ⟨_, copyDutyByte_writesTransferOnly k len s, absurd rfl⟩
  · exact ⟨s.scratch, effect.2 ▸ readResponse_writesTransferOnly s, fun _ => rfl⟩

end Sys2Proof.Machine
end

section
/-! PROOFS. A GET_SPEED after a SET_SPEED returns the values set (O52), with handler steps before, among and after
their events: what MAIN sees of the block, how the handlers leave it, and each MAIN step's effect on it. -/

namespace Sys2Proof.Machine

/-! ### What MAIN sees -/

/-- The registers that the SET_SPEED and GET_SPEED callbacks read and write. -/
structure MainView where
  ctl : CtlState
  mainOp : MainOp
  duty : Bank
  scratch : Bank
  trace : List TraceItem

/-- What MAIN sees of `s`. -/
def State.mainView (s : State) : MainView := ⟨s.ctl, s.mainOp, s.duty, s.scratch, s.trace⟩

/-- All that the handlers' micro-steps can write (R134, R135). -/
theorem handlerStep_frame {i : Instr} {s t : State} (handler : isHandlerStep i = true) (h : exec i s = .next t) :
    t = { s with duty := t.duty, pcnt := t.pcnt, psnap := t.psnap, levels := t.levels, silence := t.silence,
                 tick := t.tick } := by
  have effect := effect_of_next h
  cases i with
  | pinChange | tickEnter =>
    obtain ⟨-, rfl⟩ := effect
    rfl
  | tickCopy | tickClear =>
    obtain ⟨done, -, -, rfl⟩ := effect
    rfl
  | tickWd =>
    obtain ⟨-, rfl⟩ := effect
    obtain ⟨-, e⟩ | ⟨-, e⟩ := countSilence_cases Config.silenceBound.val Config.defaultDuty s <;> rw [e]
  | _ => cases handler

theorem handlerStep_mainView {i : Instr} {s t : State} (handler : isHandlerStep i = true) (h : exec i s = .next t) :
    t.mainView = { s.mainView with duty := t.duty } :=
  congrArg State.mainView (handlerStep_frame handler h)

/-! ### Runs of handler steps -/

/-- From `s` to `u` handler steps alone are taken, and `n` ticks complete. -/
def HandlerRun (n : Nat) (s u : State) : Prop :=
  ∃ hs, (∀ i ∈ hs, isHandlerStep i = true) ∧ ticksCompleted hs = n ∧ runEvents hs s = .next u

theorem HandlerRun.mainView_but_duty {n : Nat} {s u : State} (h : HandlerRun n s u) :
    u.mainView = { s.mainView with duty := u.duty } := by
  obtain ⟨hs, handlers, -, run⟩ := h
  refine runEvents_preserves (P := fun v => v.mainView = { s.mainView with duty := v.duty })
    (fun i hi v w hw kept => ?_) rfl run
  rw [handlerStep_mainView (handlers i hi) hw, kept]

/-- With no more ticks than S allows, the handlers leave `duty` alone too (R103). -/
theorem HandlerRun.of_quiet {n : Nat} {s u : State} (h : HandlerRun n s u)
    (quiet : s.silence.toNat + n ≤ Config.silenceBound.val) :
    u.silence.toNat = s.silence.toNat + n ∧ u.mainView = s.mainView := by
  have view := h.mainView_but_duty
  obtain ⟨hs, handlers, rfl, run⟩ := h
  have not_handler {i : Instr} (hi : isHandlerStep i = false) : i ∉ hs := fun mem => by
    rw [handlers i mem] at hi; cases hi
  obtain ⟨silence_eq, duty_eq⟩ := silence_and_duty_of_run (not_handler rfl) (not_handler rfl) quiet run
  refine ⟨silence_eq, ?_⟩
  rw [view, duty_eq (not_handler rfl) fun _ => not_handler rfl]
  rfl

/-! ### Runs of MAIN steps with handler steps among them -/

/-- From `s` to `t` the MAIN steps `main` are taken in this order, with handler steps before, among and after them that
complete at most `n` ticks. -/
def InterruptedRun (main : List Instr) (n : Nat) (s t : State) : Prop :=
  ∃ evs, evs.filter isMainStep = main ∧ (∀ i ∈ evs, isMainStep i = true ∨ isHandlerStep i = true) ∧
    ticksCompleted evs ≤ n ∧ runEvents evs s = .next t

theorem main_or_handler_step {i : Instr} (no_reset : i ≠ .reset) (no_boot : ∀ lv0, i ≠ .boot lv0) :
    isMainStep i = true ∨ isHandlerStep i = true := by
  cases i with
  | reset => exact absurd rfl no_reset
  | boot lv0 => exact absurd rfl (no_boot lv0)
  | pinChange | tickEnter | tickCopy | tickClear | tickWd => exact .inr rfl
  | _ => exact .inl rfl

theorem runEvents_append_eq_next {is js : List Instr} {s t : State} :
    runEvents (is ++ js) s = .next t ↔ ∃ u, runEvents is s = .next u ∧ runEvents js u = .next t := by
  induction is generalizing s with
  | nil => simp
  | cons i is ih =>
    simp only [List.cons_append, runEvents_cons_eq_next, ih]
    exact ⟨fun ⟨v, hv, u, hu, ht⟩ => ⟨u, ⟨v, hv, hu⟩, ht⟩, fun ⟨u, ⟨v, hv, hu⟩, ht⟩ => ⟨v, hv, u, hu, ht⟩⟩

/-- Such a run begins with handler steps and the first MAIN step. -/
theorem InterruptedRun.uncons {i : Instr} {is : List Instr} {n : Nat} {s t : State}
    (h : InterruptedRun (i :: is) n s t) :
    ∃ k m u w, k + m ≤ n ∧ HandlerRun k s u ∧ exec i u = .next w ∧ InterruptedRun is m w t := by
  obtain ⟨evs, order, kinds, ticks, run⟩ := h
  obtain ⟨hs, rest, rfl, not_main, -, order_rest⟩ := List.filter_eq_cons_iff.1 order
  obtain ⟨u, run_handlers, run_tail⟩ := runEvents_append_eq_next.1 run
  obtain ⟨w, taken, run_rest⟩ := runEvents_cons_eq_next.1 run_tail
  have ticks_split : ticksCompleted (hs ++ i :: rest) =
      ticksCompleted hs + (ticksCompleted [i] + ticksCompleted rest) := by
    rw [ticksCompleted_append, ← ticksCompleted_append [i] rest, List.singleton_append]
  refine ⟨ticksCompleted hs, ticksCompleted rest, u, w, by omega, ⟨hs, fun j hj => ?_, rfl, run_handlers⟩, taken,
    rest, order_rest, fun j hj => kinds j (by simp [hj]), le_rfl, run_rest⟩
  exact (kinds j (List.mem_append_left _ hj)).resolve_left (not_main j hj)

theorem InterruptedRun.handlerRun_of_nil {n : Nat} {s t : State} (h : InterruptedRun [] n s t) :
    ∃ k, k ≤ n ∧ HandlerRun k s t := by
  obtain ⟨evs, order, kinds, ticks, run⟩ := h
  exact ⟨_, ticks, evs, fun j hj => (kinds j hj).resolve_left (List.filter_eq_nil_iff.1 order j hj), rfl, run⟩

/-- The rest of a run, from a state where MAIN sees `m` and which completes too few ticks for a restore. -/
def QuietRun (main : List Instr) (m : MainView) (t : State) : Prop :=
  ∃ s n, s.mainView = m ∧ s.silence.toNat + n ≤ Config.silenceBound.val ∧ InterruptedRun main n s t

theorem QuietRun.mainView_of_nil {m : MainView} {t : State} (h : QuietRun [] m t) : t.mainView = m := by
  obtain ⟨s, n, rfl, quiet, run⟩ := h
  obtain ⟨k, within, handlers⟩ := run.handlerRun_of_nil
  exact (handlers.of_quiet (by omega)).2

/-- A MAIN step that does not kick the silence counter: its effect on what MAIN sees is all there is. -/
theorem QuietRun.next {i : Instr} {is : List Instr} {m m' : MainView} {t : State} (h : QuietRun (i :: is) m t)
    (main : isMainStep i = true) (no_kick : i ≠ .ssReset)
    (effect : ∀ u w, u.mainView = m → exec i u = .next w → w.mainView = m') : QuietRun is m' t := by
  obtain ⟨s, n, rfl, quiet, run⟩ := h
  obtain ⟨k, l, u, w, within, handlers, taken, rest⟩ := run.uncons
  obtain ⟨silence_eq, view⟩ := handlers.of_quiet (by omega)
  have kept : w.silence = u.silence := by
    refine (silence_kept_or_written taken).resolve_right ?_
    rintro (rfl | rfl | rfl)
    · cases main
    · exact no_kick rfl
    · cases main
  exact ⟨w, l, effect u w view taken, by rw [kept]; omega, rest⟩

/-! ### SET_SPEED -/

theorem setupResult_plain_setSpeed (s : State) :
    setupResult (decodeRequest (plainPacket 0x40 1 4)) s =
      { s with ctl := .outWait, trace := s.trace ++ [.awaitOut] } := rfl

theorem mainView_of_data {v : Bank} {s t : State} (awaited : s.ctl = .outWait)
    (h : exec (.data [v.c0, v.c1, v.c2, v.c3]) s = .next t) :
    t.mainView = { s.mainView with ctl := .idle, mainOp := .ssReset v } := by
  obtain ⟨-, rfl⟩ := effect_of_next h
  simp only [dataStage, awaited, payloadOf]
  rfl

theorem mainView_of_ssReset {v : Bank} {s t : State} (accepted : s.mainOp = .ssReset v)
    (h : exec .ssReset s = .next t) : t.mainView = { s.mainView with mainOp := .ssWrite 0 v } ∧ t.silence = 0#8 := by
  obtain ⟨b, accepted', -, rfl⟩ := effect_of_next h
  obtain rfl : b = v := MainOp.ssReset.inj (accepted'.symm.trans accepted)
  exact ⟨rfl, rfl⟩

/-- Up to the kick ticks may restore: the writes still to come leave nothing of it (R111 to R113). -/
theorem InterruptedRun.quietRun_after_kick {v : Bank} {is : List Instr} {n : Nat} {s t : State}
    (h : InterruptedRun (.setup (plainPacket 0x40 1 4) :: .data [v.c0, v.c1, v.c2, v.c3] :: .ssReset :: is) n s t)
    (within : n ≤ Config.silenceBound.val) :
    ∃ d, QuietRun is ⟨.idle, .ssWrite 0 v, d, s.scratch, s.trace ++ [.awaitOut]⟩ t := by
  obtain ⟨k₁, n₁, u₁, w₁, ticks₁, handlers₁, setup, from_data⟩ := h.uncons
  obtain ⟨k₂, n₂, u₂, w₂, ticks₂, handlers₂, data, from_kick⟩ := from_data.uncons
  obtain ⟨k₃, n₃, u₃, w₃, ticks₃, handlers₃, kick, rest⟩ := from_kick.uncons
  obtain ⟨-, rfl⟩ := effect_of_next setup
  rw [setupResult_plain_setSpeed] at handlers₂
  have awaited : u₂.ctl = .outWait := congrArg MainView.ctl handlers₂.mainView_but_duty
  have view_data := mainView_of_data awaited data
  have view_accepted : u₃.mainView = ⟨.idle, .ssReset v, u₃.duty, s.scratch, s.trace ++ [.awaitOut]⟩ := by
    have scratch₁ : u₁.scratch = s.scratch := congrArg MainView.scratch handlers₁.mainView_but_duty
    have trace₁ : u₁.trace = s.trace := congrArg MainView.trace handlers₁.mainView_but_duty
    rw [handlers₃.mainView_but_duty, view_data, handlers₂.mainView_but_duty, ← scratch₁, ← trace₁]
    rfl
  obtain ⟨view_kick, silent⟩ := mainView_of_ssReset (congrArg MainView.mainOp view_accepted) kick
  rw [view_accepted] at view_kick
  exact ⟨u₃.duty, w₃, n₃, view_kick, by rw [silent, BitVec.toNat_zero]; omega, rest⟩

/-- One write (R114). -/
theorem QuietRun.ssWrite {is : List Instr} {c : CtlState} {k : Channel} {v d scr : Bank} {tr : List TraceItem}
    {t : State} (h : QuietRun (.ssWrite :: is) ⟨c, .ssWrite k v, d, scr, tr⟩ t) :
    QuietRun is ⟨c, if k = 3 then .none else .ssWrite (k + 1) v, d.set k (v.get k), scr, tr⟩ t := by
  refine h.next rfl nofun fun u w view step => ?_
  obtain ⟨k', v', writing, -, rfl⟩ := effect_of_next step
  obtain ⟨rfl, op, rfl, rfl, rfl⟩ := MainView.mk.inj view
  obtain ⟨rfl, rfl⟩ := MainOp.ssWrite.inj (writing.symm.trans op)
  rfl

/-- The four writes leave nothing of the bank found. -/
theorem QuietRun.ssWrites {is : List Instr} {c : CtlState} {v d scr : Bank} {tr : List TraceItem} {t : State}
    (h : QuietRun (.ssWrite :: .ssWrite :: .ssWrite :: .ssWrite :: is) ⟨c, .ssWrite 0 v, d, scr, tr⟩ t) :
    QuietRun is ⟨c, .none, v, scr, tr⟩ t :=
  h.ssWrite.ssWrite.ssWrite.ssWrite

/-! ### GET_SPEED -/

theorem setupResult_plain_getSpeed (s : State) :
    setupResult (decodeRequest (plainPacket 0xC0 2 4)) s = { s with ctl := .idle, mainOp := .gsCopy 0 4 } := rfl

/-- Its setup (R116). -/
theorem QuietRun.getSpeed {is : List Instr} {c : CtlState} {op : MainOp} {d scr : Bank} {tr : List TraceItem}
    {t : State} (h : QuietRun (.setup (plainPacket 0xC0 2 4) :: is) ⟨c, op, d, scr, tr⟩ t) :
    QuietRun is ⟨.idle, .gsCopy 0 4, d, scr, tr⟩ t := by
  refine h.next rfl nofun fun u w view step => ?_
  obtain ⟨-, rfl⟩ := effect_of_next step
  obtain ⟨-, -, rfl, rfl, rfl⟩ := MainView.mk.inj view
  rw [setupResult_plain_getSpeed]
  rfl

/-- One copy that is not the last (R117). -/
theorem QuietRun.gsCopy {is : List Instr} {c : CtlState} {k : Channel} {len : Fin 5} {d scr : Bank}
    {tr : List TraceItem} {t : State} (not_last : k.val < 3)
    (h : QuietRun (.gsCopy :: is) ⟨c, .gsCopy k len, d, scr, tr⟩ t) :
    QuietRun is ⟨c, .gsCopy (k + 1) len, d, scr.set k (d.get k), tr⟩ t := by
  refine h.next rfl nofun fun u w view step => ?_
  obtain ⟨k', len', copying, -, rfl⟩ := effect_of_next step
  obtain ⟨rfl, op, rfl, rfl, rfl⟩ := MainView.mk.inj view
  obtain ⟨rfl, rfl⟩ := MainOp.gsCopy.inj (copying.symm.trans op)
  rw [copyDutyByte_of_not_last not_last]
  rfl

/-- The last copy (R117). -/
theorem QuietRun.gsCopy_last {is : List Instr} {c : CtlState} {len : Fin 5} {d scr : Bank} {tr : List TraceItem}
    {t : State} (h : QuietRun (.gsCopy :: is) ⟨c, .gsCopy 3 len, d, scr, tr⟩ t) :
    QuietRun is ⟨if len.val > 0 then .inResp .scratch len 0 else .idle, .none, d, scr.set 3 (d.get 3),
      tr ++ [TraceItem.resp len]⟩ t := by
  refine h.next rfl nofun fun u w view step => ?_
  obtain ⟨k', len', copying, -, rfl⟩ := effect_of_next step
  obtain ⟨-, op, rfl, rfl, rfl⟩ := MainView.mk.inj view
  obtain ⟨rfl, rfl⟩ := MainOp.gsCopy.inj (copying.symm.trans op)
  rw [copyDutyByte_of_last (lt_irrefl 3)]
  rfl

/-- The four copies leave nothing of the buffer found. -/
theorem QuietRun.gsCopies {is : List Instr} {c : CtlState} {d scr : Bank} {tr : List TraceItem} {t : State}
    (h : QuietRun (.gsCopy :: .gsCopy :: .gsCopy :: .gsCopy :: is) ⟨c, .gsCopy 0 4, d, scr, tr⟩ t) :
    QuietRun is ⟨.inResp .scratch 4 0, .none, d, d, tr ++ [TraceItem.resp 4]⟩ t := by
  have three_copied := ((h.gsCopy (by decide)).gsCopy (by decide)).gsCopy (by decide)
  exact three_copied.gsCopy_last

/-- One read of the buffer (R119). -/
theorem QuietRun.inRead {is : List Instr} {op : MainOp} {len : Fin 5} {sent : Channel} {d scr : Bank}
    {tr : List TraceItem} {t : State} (h : QuietRun (.inRead :: is) ⟨.inResp .scratch len sent, op, d, scr, tr⟩ t) :
    QuietRun is ⟨if sent.val + 1 = len.val then .idle else .inResp .scratch len (sent + 1), op, d, scr,
      tr ++ [TraceItem.byte (scr.get sent)]⟩ t := by
  refine h.next rfl nofun fun u w view step => ?_
  obtain ⟨-, rfl⟩ := effect_of_next step
  obtain ⟨responding, rfl, rfl, rfl, rfl⟩ := MainView.mk.inj view
  simp only [readResponse, responding]
  rfl

theorem QuietRun.inReads {is : List Instr} {op : MainOp} {d scr : Bank} {tr : List TraceItem} {t : State}
    (h : QuietRun (.inRead :: .inRead :: .inRead :: .inRead :: is) ⟨.inResp .scratch 4 0, op, d, scr, tr⟩ t) :
    QuietRun is ⟨.idle, op, d, scr, tr ++ [TraceItem.byte scr.c0] ++ [TraceItem.byte scr.c1] ++
      [TraceItem.byte scr.c2] ++ [TraceItem.byte scr.c3]⟩ t :=
  h.inRead.inRead.inRead.inRead

/-- Settles O52: after the kick no tick restores, and MAIN's events run as if no handler step came between. -/
theorem setThenGetSpeedRoundTrip : Obligations.SetThenGetSpeedRoundTrip := by
  intro v evs s t order no_reset no_boot within run
  have kinds : ∀ i ∈ evs, isMainStep i = true ∨ isHandlerStep i = true := fun i hi =>
    main_or_handler_step (ne_of_mem_of_not_mem hi no_reset) fun lv0 => ne_of_mem_of_not_mem hi (no_boot lv0)
  have interrupted : InterruptedRun _ _ s t := ⟨evs, order, kinds, le_rfl, run⟩
  obtain ⟨d, quiet⟩ := interrupted.quietRun_after_kick within
  have view := quiet.ssWrites.getSpeed.gsCopies.inReads.mainView_of_nil
  obtain ⟨ctl_eq, -, duty_eq, scratch_eq, trace_eq⟩ := MainView.mk.inj view
  exact ⟨by simpa using trace_eq, duty_eq, scratch_eq, ctl_eq⟩

end Sys2Proof.Machine
end

section
/-! PROOFS. Fair runs: every tick that starts copies, then clears, every channel and completes (O59). -/

namespace Sys2Proof.Machine

variable {ev : Nat → Instr} {st : Nat → State}

/-! ### Infinite runs -/

/-- An infinite run in which no RESET is taken. -/
def ResetFreeRun (ev : Nat → Instr) (st : Nat → State) : Prop :=
  ∀ n, ev n ≠ .reset ∧ exec (ev n) (st n) = .next (st (n + 1))

theorem FairRun.resetFree (h : FairRun ev st) : ResetFreeRun ev st := by
  obtain ⟨run, ⟨-, no_reset⟩, -⟩ := h
  exact fun n => ⟨no_reset n, (run n).2⟩

theorem FairRun.ticksForever (h : FairRun ev st) : TicksForever ev := by
  obtain ⟨-, -, ticks, -⟩ := h
  exact ticks

/-- What holds in state a and no longer in state b was ended by an event in between, the only one that can end it. -/
theorem exists_ending_event {P : State → Prop} {i : Instr} {a b : Nat} (later : a ≤ b)
    (keep : ∀ m, a ≤ m → ev m ≠ i → P (st m) → P (st (m + 1))) (before : P (st a)) (after : ¬ P (st b)) :
    ∃ c, a ≤ c ∧ c < b ∧ ev c = i := by
  induction b, later using Nat.le_induction with
  | base => exact absurd before after
  | succ b later ih =>
    by_cases still : P (st b)
    · exact ⟨b, later, b.lt_succ_self, by_contra fun other => after (keep b later other still)⟩
    · obtain ⟨c, from_a, to_b, taken⟩ := ih still
      exact ⟨c, from_a, to_b.trans b.lt_succ_self, taken⟩

/-- An event taken at m or later is taken a first time. -/
theorem exists_first_event {i : Instr} {m : Nat} (h : ∃ r, m ≤ r ∧ ev r = i) :
    ∃ r, m ≤ r ∧ ev r = i ∧ ∀ j, m ≤ j → j < r → ev j ≠ i := by
  obtain ⟨from_m, taken⟩ := Nat.find_spec h
  exact ⟨Nat.find h, from_m, taken, fun j hj earlier => not_and.1 (Nat.find_min h earlier) hj⟩

/-! ### The phases of the tick handler, and the one event that ends each -/

/-- Channel k is still to be copied (R91). -/
def AwaitsCopy (k : Channel) : TickPhase → Prop
  | .copy done => hasChannel done k = false
  | .idle | .clear _ | .wd => False

/-- Every channel is copied and the handler has not returned (R91, R92). -/
def CopiesDone : TickPhase → Prop
  | .clear _ | .wd => True
  | .idle | .copy _ => False

theorem handler_runs_on {i : Instr} {s t : State} (running : s.tick ≠ .idle) (hr : i ≠ .reset)
    (no_wd : i ≠ .tickWd) (h : exec i s = .next t) : t.tick ≠ .idle := by
  obtain ⟨-, before, -⟩ | ⟨_, _, -, -, after⟩ | ⟨_, _, -, -, after⟩ | ⟨rfl, -⟩ | ⟨-, -, -, -, kept⟩ := tick_of_next h hr
  · exact absurd before running
  · rw [after]; split <;> nofun
  · rw [after]; split <;> nofun
  · exact absurd rfl no_wd
  · exact kept ▸ running

theorem AwaitsCopy.of_next {k : Channel} {i : Instr} {s t : State} (awaits : AwaitsCopy k s.tick) (hr : i ≠ .reset)
    (no_copy : i ≠ .tickCopy k) (h : exec i s = .next t) : AwaitsCopy k t.tick := by
  obtain ⟨-, before, -⟩ | ⟨j, done, rfl, before, after⟩ | ⟨_, _, -, before, -⟩ | ⟨-, before, -⟩ |
    ⟨-, -, -, -, kept⟩ := tick_of_next h hr
  · rw [before] at awaits; exact awaits.elim
  · rw [before] at awaits
    have other : k ≠ j := by rintro rfl; exact no_copy rfl
    have uncopied : hasChannel (addChannel done j) k = false := by
      rw [hasChannel_addChannel, awaits, decide_eq_false other, Bool.or_false]
    have not_all : addChannel done j ≠ allChannels := fun all => by
      rw [all, hasChannel_allChannels] at uncopied
      cases uncopied
    rw [after, if_neg not_all]
    exact uncopied
  · rw [before] at awaits; exact awaits.elim
  · rw [before] at awaits; exact awaits.elim
  · exact kept ▸ awaits

theorem CopiesDone.of_next {i : Instr} {s t : State} (copied : CopiesDone s.tick) (hr : i ≠ .reset)
    (no_wd : i ≠ .tickWd) (h : exec i s = .next t) : CopiesDone t.tick := by
  obtain ⟨-, before, -⟩ | ⟨_, _, -, before, -⟩ | ⟨_, _, -, -, after⟩ | ⟨rfl, -⟩ | ⟨-, -, -, -, kept⟩ := tick_of_next h hr
  · rw [before] at copied; exact copied.elim
  · rw [before] at copied; exact copied.elim
  · rw [after]; split <;> trivial
  · exact absurd rfl no_wd
  · exact kept ▸ copied

theorem tick_of_tickEnter {s t : State} (h : exec .tickEnter s = .next t) :
    s.tick = .idle ∧ t.tick = .copy noChannels := by
  obtain ⟨ready, rfl⟩ := effect_of_next h
  obtain ⟨-, -, -, idle⟩ := canTake_tick_iff.1 ready
  exact ⟨idle, rfl⟩

theorem tick_of_tickWd {s t : State} (h : exec .tickWd s = .next t) : s.tick = .wd ∧ t.tick = .idle := by
  obtain ⟨pending, rfl⟩ := effect_of_next h
  exact ⟨pending, rfl⟩

/-! ### One tick of a run -/

/-- A tick is taken at a, and b is its TICKWD: the next one. -/
structure TickSpan (ev : Nat → Instr) (a b : Nat) : Prop where
  later : a < b
  enter : ev a = .tickEnter
  wd : ev b = .tickWd
  next : ∀ m, a < m → m < b → ev m ≠ .tickWd

theorem FairRun.tickSpan (h : FairRun ev st) {a : Nat} (enter : ev a = .tickEnter) : ∃ b, TickSpan ev a b := by
  obtain ⟨b, later, wd, next⟩ := exists_first_event (h.tickWd_after (a + 1))
  exact ⟨b, later, enter, wd, next⟩

namespace TickSpan

variable {a b : Nat} (span : TickSpan ev a b) (run : ResetFreeRun ev st)
include span run

theorem tick_after_enter : (st (a + 1)).tick = .copy noChannels :=
  (tick_of_tickEnter (span.enter ▸ (run a).2)).2

theorem tick_at_wd : (st b).tick = .wd :=
  (tick_of_tickWd (span.wd ▸ (run b).2)).1

theorem idle_after : (st (b + 1)).tick = .idle :=
  (tick_of_tickWd (span.wd ▸ (run b).2)).2

/-- Only a TICKWD ends the handler, and there is none before b. -/
theorem running {m : Nat} (after_a : a < m) (to_b : m ≤ b) : (st m).tick ≠ .idle := fun idle => by
  obtain ⟨c, from_a, before_m, wd⟩ := exists_ending_event (P := fun s => s.tick ≠ .idle) after_a
    (fun n _ no_wd running => handler_runs_on running (run n).1 no_wd (run n).2)
    (by rw [span.tick_after_enter run]; nofun) (not_not.2 idle)
  exact span.next c from_a (before_m.trans_le to_b) wd

theorem no_tickEnter {m : Nat} (after_a : a < m) (before_b : m < b) : ev m ≠ .tickEnter := fun enter =>
  span.running run after_a before_b.le (tick_of_tickEnter (enter ▸ (run m).2)).1

/-- Each channel waits for its copy after the TICKENTER, for its clear after its copy, and for nothing at the TICKWD. -/
theorem copied_then_cleared (k : Channel) :
    ∃ c d, a < c ∧ c < d ∧ d < b ∧ ev c = .tickCopy k ∧ ev d = .tickClear k := by
  have at_wd := span.tick_at_wd run
  obtain ⟨c, after_a, before_b, copy⟩ := exists_ending_event (P := fun s => AwaitsCopy k s.tick) span.later
    (fun n _ no_copy awaits => awaits.of_next (run n).1 no_copy (run n).2)
    (by rw [span.tick_after_enter run]; exact hasChannel_noChannels k) (by rw [at_wd]; exact id)
  obtain ⟨d, after_c, before_b, clear⟩ := exists_ending_event (P := fun s => AwaitsClear k s.tick) before_b
    (fun n _ no_clear awaits => awaits.of_next (run n).1 no_clear (run n).2)
    (awaitsClear_after_tickCopy (copy ▸ (run c).2)) (by rw [at_wd]; exact id)
  exact ⟨c, d, after_a, after_c, before_b, copy, clear⟩

/-- A clear finds every channel copied, and no copy can be taken from there to the TICKWD. -/
theorem copy_before_clear {j k : Channel} {c d : Nat} (c_before_b : c < b) (a_before_d : a < d)
    (copy : ev c = .tickCopy j) (clear : ev d = .tickClear k) : c < d := by
  by_contra not_before
  obtain ⟨_, clearing, -⟩ := effect_of_next (clear ▸ (run d).2)
  obtain ⟨_, copying, -⟩ := effect_of_next (copy ▸ (run c).2)
  obtain ⟨e, from_d, before_c, wd⟩ := exists_ending_event (P := fun s => CopiesDone s.tick) (not_lt.1 not_before)
    (fun n _ no_wd copied => copied.of_next (run n).1 no_wd (run n).2)
    (by rw [clearing]; trivial) (by rw [copying]; exact id)
  exact span.next e (a_before_d.trans_le from_d) (before_c.trans c_before_b) wd

end TickSpan

/-- Settles O59: each TICKENTER and its TICKWD span one tick of the run. -/
theorem fairRunsKeepCommitting : Obligations.FairRunsKeepCommitting := by
  intro ev st fair
  have run := fair.resetFree
  refine ⟨fair.ticksForever, fun a enter => ?_⟩
  obtain ⟨b, span⟩ := fair.tickSpan enter
  exact ⟨b, span.later, span.wd,
    fun m after_a before_b => ⟨span.no_tickEnter run after_a before_b, span.next m after_a before_b⟩,
    fun m => span.running run, span.idle_after run, span.copied_then_cleared run,
    fun j k c d _ c_before_b a_before_d _ => span.copy_before_clear run c_before_b a_before_d⟩

end Sys2Proof.Machine
end

section
/-! PROOFS. MAIN and the interrupt handlers: what each may write (O57, O15), and that MAIN waits for the tick handler (O56). -/

namespace Sys2Proof.Machine

/-- From `s` to `t` nothing is written but the registers that MAIN's rules name (R40). -/
def WritesMainOnly (s t : State) : Prop :=
  ∃ d n scr c op mark tr,
    t = { s with duty := d, silence := n, scratch := scr, ctl := c, mainOp := op, refused := mark, trace := tr }

theorem WritesTransferOnly.writesMainOnly {s t : State} {scr : Bank}
    (h : WritesTransferOnly { s with scratch := scr } t) : WritesMainOnly s t := by
  obtain ⟨c, op, mark, tr, rfl⟩ := h
  exact ⟨s.duty, s.silence, scr, c, op, mark, tr, rfl⟩

theorem setupResult_writesMainOnly (r : Request) (s : State) : WritesMainOnly s (setupResult r s) :=
  (setupResult_writesTransferOnly r s).writesMainOnly (scr := s.scratch)

theorem mainStep_writesMainOnly {i : Instr} {s t : State} (main : isMainStep i = true) (h : exec i s = .next t) :
    WritesMainOnly s t := by
  have effect := effect_of_next h
  cases i with
  | standard | vendorOther | classType | reservedType | busReset => exact effect.2 ▸ ⟨_, _, _, _, _, _, _, rfl⟩
  | setSpeed hd => exact effect.2 ▸ setupResult_writesMainOnly (.setSpeed hd) s
  | getSpeed hd => exact effect.2 ▸ setupResult_writesMainOnly (.getSpeed hd) s
  | getTacho hd => exact effect.2 ▸ setupResult_writesMainOnly (.getTacho hd) s
  | setup p => exact effect.2 ▸ setupResult_writesMainOnly (decodeRequest p) s
  | data bytes =>
    obtain ⟨-, rfl⟩ := effect
    obtain ⟨-, e⟩ | ⟨-, -, e⟩ | ⟨_, _, _, _, -, -, e⟩ := dataStage_cases s bytes <;> exact ⟨_, _, _, _, _, _, _, e⟩
  | inRead => exact effect.2 ▸ (readResponse_writesTransferOnly s).writesMainOnly (scr := s.scratch)
  | gsCopy =>
    obtain ⟨k, len, -, -, rfl⟩ := effect
    exact (copyDutyByte_writesTransferOnly k len s).writesMainOnly
  | ssReset =>
    obtain ⟨b, -, -, rfl⟩ := effect
    exact ⟨_, _, _, _, _, _, _, rfl⟩
  | ssWrite =>
    obtain ⟨k, b, -, -, rfl⟩ := effect
    exact ⟨_, _, _, _, _, _, _, rfl⟩
  | reset | boot | pinChange | tickEnter | tickCopy | tickClear | tickWd => cases main

/-- Settles O57: `duty`, the counts, the levels, `silence` and `tick` are all that the handlers write. -/
theorem handlersLeaveMainAlone : Obligations.HandlersLeaveMainAlone := by
  intro i s t handler h
  rw [handlerStep_frame handler h]
  exact ⟨rfl, rfl, rfl, rfl, rfl, rfl, rfl, rfl, rfl, rfl, rfl, rfl⟩

/-- Settles O15: neither MAIN nor a handler writes the flags. -/
theorem interruptFlagsSetOnlyByBoot : Obligations.InterruptFlagsSetOnlyByBoot := by
  refine ⟨fun lv s t h => ?_, fun s t h => ?_, ⟨rfl, rfl, rfl⟩, fun s t h => ?_, fun lv0 s t h => ?_,
    fun i s t no_reset no_boot h => ?_⟩
  · obtain ⟨-, ie, pcie⟩ := canTake_pinChange_iff.1 (effect_of_next h).1
    exact ⟨ie, pcie⟩
  · obtain ⟨-, ie, armed, -⟩ := canTake_tick_iff.1 (effect_of_next h).1
    exact ⟨ie, armed⟩
  · cases h
    exact ⟨rfl, rfl, rfl⟩
  · obtain ⟨-, rfl⟩ := effect_of_next h
    exact ⟨rfl, rfl, rfl⟩
  · obtain main | handler := main_or_handler_step no_reset no_boot
    · obtain ⟨_, _, _, _, _, _, _, rfl⟩ := mainStep_writesMainOnly main h
      exact ⟨rfl, rfl, rfl⟩
    · rw [handlerStep_frame handler h]
      exact ⟨rfl, rfl, rfl⟩

/-- A MAIN step is taken only while no tick handler runs (R108, R113, R114, R117). -/
theorem tick_idle_of_mainStep {i : Instr} {s t : State} (main : isMainStep i = true) (h : exec i s = .next t) :
    s.tick = .idle := by
  cases host : isHostEvent i with
  | true =>
    obtain ⟨u, e⟩ := exec_hostEvent host s
    obtain ⟨-, -, idle⟩ := hostReady_iff.1 (stepWhen_eq_next.1 (e ▸ h)).1
    exact idle
  | false =>
    have effect := effect_of_next h
    cases i with
    | gsCopy =>
      obtain ⟨_, _, -, idle, -⟩ := effect
      exact idle
    | ssReset =>
      obtain ⟨_, -, idle, -⟩ := effect
      exact idle
    | ssWrite =>
      obtain ⟨_, _, -, idle, -⟩ := effect
      exact idle
    | reset | boot | pinChange | tickEnter | tickCopy | tickClear | tickWd => cases main
    | _ => cases host

/-- Settles O56: a MAIN step would need `tick = T_IDLE`. -/
theorem mainBlockedDuringTick : Obligations.MainBlockedDuringTick :=
  fun _ _ _ main running h => running (tick_idle_of_mainStep main h)

end Sys2Proof.Machine
end

section
/-! PROOFS. An event that changes the refusal mark is one of R148's table (O55). -/

namespace Sys2Proof.Machine

/-- R148's table for a class: the reason for which its setup is refused. -/
def SetupRefusal : Request → Reason → Prop
  | .setSpeed h, why =>
    h.dir = .deviceToHost ∧ why = .dirMismatch ∨ h.dir = .hostToDevice ∧ h.wLength ≠ 4#16 ∧ why = .setLen
  | .getSpeed h, why | .getTacho h, why => h.dir = .hostToDevice ∧ why = .dirMismatch
  | .standard _ _, _ | .vendorOther _ _, _ | .classType _ _, _ | .reservedType _ _, _ => False

/-- The event `i` delivers a packet of class `r`: the class's own instruction, or the SETUP of a packet (log entry 21). -/
def Delivers (i : Instr) (r : Request) : Prop := i = r.toInstr ∨ ∃ p, i = .setup p ∧ decodeRequest p = r

/-- The rows of R148's table, with its conditions: event `i`, taken in `s`, is refused for the reason `why`. -/
inductive RefusedBy (s : State) : Instr → Reason → Prop where
  | setup {i : Instr} {r : Request} {why : Reason} : Delivers i r → SetupRefusal r why → RefusedBy s i why
  | data {bytes : List Byte} : s.ctl = .outWait → bytes.length ≠ 4 → RefusedBy s (.data bytes) .setLen
  | inRead : s.ctl = .idle ∨ s.ctl = .outWait → RefusedBy s .inRead .inNoData

theorem setupResult_marks (r : Request) (s : State) :
    (setupResult r s).refused = s.refused ∨
    ∃ why, SetupRefusal r why ∧ setupResult r s = { s with refused := some why } := by
  cases r with
  | standard | vendorOther | classType | reservedType => exact .inl rfl
  | setSpeed h =>
    obtain ⟨-, -, e⟩ | ⟨dir, len, e⟩ | ⟨dir, e⟩ := setSpeedSetup_cases s h
    · exact .inl (by rw [setupResult, e])
    · exact .inr ⟨_, .inr ⟨dir, len, rfl⟩, e⟩
    · exact .inr ⟨_, .inl ⟨dir, rfl⟩, e⟩
  | getSpeed h =>
    obtain ⟨-, e⟩ | ⟨dir, e⟩ := getSpeedSetup_cases s h
    · exact .inl (by rw [setupResult, e])
    · exact .inr ⟨_, ⟨dir, rfl⟩, e⟩
  | getTacho h =>
    obtain ⟨-, e⟩ | ⟨dir, e⟩ := getTachoSetup_cases s h
    · exact .inl (by rw [setupResult, e]; rfl)
    · exact .inr ⟨_, ⟨dir, rfl⟩, e⟩

/-- An event keeps the mark, or is refused by R148's table and does no more than set it (R9). -/
theorem mark_kept_or_refusedBy {i : Instr} {s t : State} (h : exec i s = .next t) :
    t.refused = s.refused ∨ ∃ why, RefusedBy s i why ∧ t = { s with refused := some why } := by
  have effect := effect_of_next h
  have of_setup {r : Request} (delivers : Delivers i r) (e : t = setupResult r s) :
      t.refused = s.refused ∨ ∃ why, RefusedBy s i why ∧ t = { s with refused := some why } := by
    subst e
    exact (setupResult_marks r s).imp_right fun ⟨why, refusal, e⟩ => ⟨why, .setup delivers refusal, e⟩
  cases i with
  | setSpeed hd => exact of_setup (r := .setSpeed hd) (.inl rfl) effect.2
  | getSpeed hd => exact of_setup (r := .getSpeed hd) (.inl rfl) effect.2
  | getTacho hd => exact of_setup (r := .getTacho hd) (.inl rfl) effect.2
  | setup p => exact of_setup (.inr ⟨p, rfl, rfl⟩) effect.2
  | data bytes =>
    obtain ⟨-, rfl⟩ := effect
    obtain ⟨-, e⟩ | ⟨awaited, len, e⟩ | ⟨_, _, _, _, -, -, e⟩ := dataStage_cases s bytes
    · exact .inl (by rw [e])
    · exact .inr ⟨_, .data awaited len, e⟩
    · exact .inl (by rw [e])
  | inRead =>
    obtain ⟨-, rfl⟩ := effect
    obtain ⟨_, _, _, -, e⟩ | ⟨no_response, e⟩ := readResponse_cases s
    · exact .inl (by rw [e])
    · exact .inr ⟨_, .inRead no_response, e⟩
  | reset => cases h; exact .inl rfl
  | gsCopy =>
    obtain ⟨k, len, -, -, rfl⟩ := effect
    exact .inl (copyDutyByte_refused k len s)
  | ssReset =>
    obtain ⟨b, -, -, rfl⟩ := effect
    exact .inl rfl
  | ssWrite =>
    obtain ⟨k, b, -, -, rfl⟩ := effect
    exact .inl rfl
  | pinChange | tickEnter | tickCopy | tickClear | tickWd =>
    rw [handlerStep_frame rfl h]
    exact .inl rfl
  | standard | vendorOther | classType | reservedType | boot | busReset => exact .inl (effect.2 ▸ rfl)

/-- Settles O55: the rows of the table, a packet's class by class. -/
theorem refusalReasons : Obligations.RefusalReasons := by
  intro i s t h changed
  obtain ⟨why, refused, e⟩ := (mark_kept_or_refusedBy h).resolve_left changed
  refine ⟨why, e, ?_⟩
  cases refused with
  | @setup _ r _ delivers refusal =>
    cases r with
    | setSpeed hd => exact .inl ⟨hd, delivers, refusal⟩
    | getSpeed hd =>
      exact .inr (.inl ⟨hd, delivers.imp_right fun ⟨p, e, class_eq⟩ => .inr ⟨p, e, .inl class_eq⟩, refusal⟩)
    | getTacho hd =>
      exact .inr (.inl ⟨hd, .inr (delivers.imp_right fun ⟨p, e, class_eq⟩ => ⟨p, e, .inr class_eq⟩), refusal⟩)
    | standard | vendorOther | classType | reservedType => exact refusal.elim
  | data awaited len => exact .inr (.inr (.inl ⟨_, rfl, awaited, len, rfl⟩))
  | inRead no_response => exact .inr (.inr (.inr ⟨rfl, no_response, rfl⟩))

end Sys2Proof.Machine
end

section
/-! PROOFS. In a fair run a host that stops writing is caught (O60): its last payload is written out, the silence count
then runs up to S, and the restore that follows is final. -/

namespace Sys2Proof.Machine

/-! ### After the last SSRESET no payload is written -/

/-- MAIN is writing the bytes of a payload (R114). -/
def Writing : MainOp → Prop
  | .ssWrite _ _ => True
  | .none | .gsCopy _ _ | .ssReset _ => False

theorem setupResult_not_writing {r : Request} {s : State} (h : ¬ Writing s.mainOp) :
    ¬ Writing (setupResult r s).mainOp := by
  obtain e | ⟨_, e⟩ | ⟨_, _, e⟩ | ⟨_, e⟩ := setupResult_cases s r <;> rw [e]
  · exact h
  · exact h
  · exact h
  · exact id

theorem dataStage_not_writing {bytes : List Byte} {s : State} (h : ¬ Writing s.mainOp) :
    ¬ Writing (dataStage bytes s).mainOp := by
  obtain ⟨-, e⟩ | ⟨-, -, e⟩ | ⟨_, _, _, _, -, -, e⟩ := dataStage_cases s bytes <;> rw [e]
  · exact h
  · exact h
  · exact id

/-- Only SSRESET starts the writing (R113). -/
theorem not_writing_of_next {i : Instr} {s t : State} (idle : ¬ Writing s.mainOp) (no_kick : i ≠ .ssReset)
    (h : exec i s = .next t) : ¬ Writing t.mainOp := by
  have effect := effect_of_next h
  cases i with
  | ssReset => exact absurd rfl no_kick
  | ssWrite =>
    obtain ⟨_, _, writing, -⟩ := effect
    rw [writing] at idle
    exact absurd trivial idle
  | gsCopy =>
    obtain ⟨k, len, -, -, rfl⟩ := effect
    obtain ⟨-, e⟩ | ⟨-, e⟩ := copyDutyByte_cases s k len <;> rw [e] <;> exact id
  | setSpeed hd => exact effect.2 ▸ setupResult_not_writing (r := .setSpeed hd) idle
  | getSpeed hd => exact effect.2 ▸ setupResult_not_writing (r := .getSpeed hd) idle
  | getTacho hd => exact effect.2 ▸ setupResult_not_writing (r := .getTacho hd) idle
  | setup p => exact effect.2 ▸ setupResult_not_writing idle
  | data bytes => exact effect.2 ▸ dataStage_not_writing idle
  | inRead =>
    obtain ⟨-, rfl⟩ := effect
    obtain ⟨_, _, _, -, e⟩ | ⟨-, e⟩ := readResponse_cases s <;> rw [e] <;> exact idle
  | reset => cases h; exact id
  | pinChange | tickEnter | tickCopy | tickClear | tickWd => rw [handlerStep_frame rfl h]; exact idle
  | standard | vendorOther | classType | reservedType | boot | busReset =>
    obtain ⟨-, rfl⟩ := effect
    exact idle

theorem writing_of_ssWrite {s t : State} (h : exec .ssWrite s = .next t) : Writing s.mainOp := by
  obtain ⟨_, _, writing, -⟩ := effect_of_next h
  rw [writing]
  trivial

section
variable {ev : Nat → Instr} {st : Nat → State} {n : Nat}

/-- In a fair run MAIN comes to rest. -/
theorem FairRun.mainIdle_after (h : FairRun ev st) (n : Nat) : ∃ q, n ≤ q ∧ (st q).mainOp = .none := by
  obtain ⟨-, -, -, -, complete⟩ := h
  by_cases idle : (st n).mainOp = .none
  · exact ⟨n, le_rfl, idle⟩
  · exact complete n idle

theorem ResetFreeRun.no_ssWrite_after (run : ResetFreeRun ev st) (no_kick : ∀ m, n ≤ m → ev m ≠ .ssReset)
    (idle : (st n).mainOp = .none) {m : Nat} (from_n : n ≤ m) : ev m ≠ .ssWrite := fun write => by
  obtain ⟨c, from_n, -, kick⟩ := exists_ending_event (P := fun s => ¬ Writing s.mainOp) from_n
    (fun j _ no_kick idle => not_writing_of_next idle no_kick (run j).2) (by rw [idle]; exact id)
    (not_not.2 (writing_of_ssWrite (write ▸ (run m).2)))
  exact no_kick c from_n kick

/-! ### The silence count reaches S, and the next tick restores -/

/-- The next TICKWD finds the silence count of now. -/
theorem FairRun.exists_next_tickWd (h : FairRun ev st) (no_kick : ∀ m, n ≤ m → ev m ≠ .ssReset) :
    ∃ r, n ≤ r ∧ ev r = .tickWd ∧ (st r).silence = (st n).silence := by
  have run := h.resetFree
  obtain ⟨r, later, wd, first⟩ := exists_first_event (h.tickWd_after n)
  have keep : ∀ j, n ≤ j → ev j ≠ .tickWd → (st j).silence = (st n).silence → (st (j + 1)).silence = (st n).silence :=
    fun j from_n no_wd kept =>
      ((silence_kept_or_written (run j).2).resolve_right (by simp [no_wd, no_kick j from_n, (run j).1])).trans kept
  refine ⟨r, later, wd, by_contra fun changed => ?_⟩
  obtain ⟨c, from_n, before_r, wd⟩ :=
    exists_ending_event (P := fun s => s.silence = (st n).silence) later keep rfl changed
  exact first c from_n before_r wd

theorem silence_succ_of_tickWd {s t : State} (within : ¬ (s.silence + 1#8).toNat > Config.silenceBound.val)
    (h : exec .tickWd s = .next t) : t.silence = s.silence + 1#8 := by
  obtain ⟨-, rfl⟩ := effect_of_next h
  rw [countSilence_of_within within]

theorem exceeds_of_eq_bound {c : Byte} (at_bound : c = BitVec.ofNat 8 Config.silenceBound.val) :
    (c + 1#8).toNat > Config.silenceBound.val := by
  have bound_lt : Config.silenceBound.val < 255 := Config.silenceBound.isLt
  have toNat_eq : c.toNat = Config.silenceBound.val := by
    rw [at_bound, BitVec.toNat_ofNat, Nat.mod_eq_of_lt (by omega)]
  rw [toNat_succ_of_within_bound toNat_eq.le]
  omega

/-- `d` is how many ticks, modulo 256, the count is from S: a run may start with a count above S, which wraps. -/
theorem FairRun.exists_restoring_tick (h : FairRun ev st) (no_kick : ∀ m, n ≤ m → ev m ≠ .ssReset) (d : Nat)
    (distance : (st n).silence + BitVec.ofNat 8 d = BitVec.ofNat 8 Config.silenceBound.val) :
    ∃ r, n ≤ r ∧ ev r = .tickWd ∧ ((st r).silence + 1#8).toNat > Config.silenceBound.val := by
  induction d generalizing n with
  | zero =>
    obtain ⟨r, later, wd, kept⟩ := h.exists_next_tickWd no_kick
    exact ⟨r, later, wd, exceeds_of_eq_bound (by rw [kept, ← distance, BitVec.add_zero])⟩
  | succ d ih =>
    obtain ⟨r, later, wd, kept⟩ := h.exists_next_tickWd no_kick
    by_cases exceeds : ((st r).silence + 1#8).toNat > Config.silenceBound.val
    · exact ⟨r, later, wd, exceeds⟩
    · have counted := silence_succ_of_tickWd exceeds (wd ▸ (h.resetFree r).2)
      have closer : (st (r + 1)).silence + BitVec.ofNat 8 d = BitVec.ofNat 8 Config.silenceBound.val := by
        rw [counted, kept, ← distance, Nat.add_comm d 1, BitVec.ofNat_add, BitVec.add_assoc]
      obtain ⟨q, from_r, restores⟩ := ih (fun m from_r => no_kick m (by omega)) closer
      exact ⟨q, by omega, restores⟩

/-! ### What a restore leaves stays -/

/-- The default in every channel (R83). -/
def DefaultDuty (s : State) : Prop :=
  s.duty = ⟨Config.defaultDuty, Config.defaultDuty, Config.defaultDuty, Config.defaultDuty⟩

theorem defaultDuty_of_restoring_tick {s t : State} (exceeds : (s.silence + 1#8).toNat > Config.silenceBound.val)
    (h : exec .tickWd s = .next t) : DefaultDuty t := by
  obtain ⟨-, rfl⟩ := effect_of_next h
  rw [countSilence_of_exceeds exceeds]
  rfl

/-- SSWRITE and RESET apart, every writer of `duty` writes the default (R84). -/
theorem DefaultDuty.of_next {i : Instr} {s t : State} (dflt : DefaultDuty s) (no_reset : i ≠ .reset)
    (no_write : i ≠ .ssWrite) (h : exec i s = .next t) : DefaultDuty t := by
  obtain kept | rfl | ⟨lv0, rfl⟩ | rfl | ⟨rfl, exceeds⟩ := duty_kept_or_written h
  · exact kept.trans dflt
  · exact absurd rfl no_reset
  · obtain ⟨-, rfl⟩ := effect_of_next h
    rfl
  · exact absurd rfl no_write
  · exact defaultDuty_of_restoring_tick exceeds h

/-- Settles O60: MAIN comes to rest, a tick restores, and no SSWRITE comes after it. -/
theorem fairRunsRestoreAfterSilence : Obligations.FairRunsRestoreAfterSilence := by
  intro ev st n fair no_kick
  have run := fair.resetFree
  obtain ⟨q, from_n, idle⟩ := fair.mainIdle_after n
  replace no_kick : ∀ m, q ≤ m → ev m ≠ .ssReset := fun m from_q => no_kick m (from_n.trans from_q)
  obtain ⟨r, from_q, wd, exceeds⟩ := fair.exists_restoring_tick no_kick
    (BitVec.ofNat 8 Config.silenceBound.val - (st q).silence).toNat
    (by rw [BitVec.ofNat_toNat, BitVec.setWidth_eq, BitVec.add_comm, BitVec.sub_add_cancel])
  have restored : DefaultDuty (st (r + 1)) := defaultDuty_of_restoring_tick exceeds (wd ▸ (run r).2)
  refine ⟨r + 1, by omega, fun m from_restore => by_contra fun changed => ?_⟩
  obtain ⟨c, from_restore, -, write⟩ := exists_ending_event from_restore
    (fun j _ no_write dflt => DefaultDuty.of_next dflt (run j).1 no_write (run j).2) restored changed
  exact run.no_ssWrite_after no_kick idle (by omega) write

end

end Sys2Proof.Machine
end

section
/-! PROOFS. Reset and boot (O12, O13), that nothing else is taken before BOOT (O14), that a copied response keeps its
bytes (O51), and that without a host write `duty` keeps the default (O53). -/

namespace Sys2Proof.Machine

/-! ### What RESET and BOOT do -/

/-- Settles O12: RESET is R150's block with three draws, and has no enabling rule. -/
theorem resetRule : Obligations.ResetRule :=
  fun _ => rfl

/-- Settles O13: by whether R152's enabling rule holds. -/
theorem bootRule : Obligations.BootRule := by
  refine fun lv0 s => ⟨fun stopped => ?_, fun booted => ?_⟩
  · exact stepWhen_eq_next.2 ⟨bootReady_iff.2 stopped, rfl⟩
  · exact stepWhen_eq_fault.2 ⟨Bool.eq_false_iff.2 (mt bootReady_iff.1 booted), rfl⟩

/-! ### What BOOT has to come before (R38, R156) -/

/-- A host event asks for `boot = RUN` itself (R108); a callback micro-step has its callback pending. -/
theorem State.Inv.boot_of_mainStep {i : Instr} {s t : State} (hs : s.Inv) (main : isMainStep i = true)
    (h : exec i s = .next t) : s.boot = .run := by
  cases host : isHostEvent i with
  | true =>
    obtain ⟨u, e⟩ := exec_hostEvent host s
    obtain ⟨run, -⟩ := hostReady_iff.1 (stepWhen_eq_next.1 (e ▸ h)).1
    exact run
  | false =>
    have effect := effect_of_next h
    cases i with
    | gsCopy =>
      obtain ⟨_, _, copying, -⟩ := effect
      exact hs.boot_of_mainOp (by simp [copying])
    | ssReset =>
      obtain ⟨_, accepted, -⟩ := effect
      exact hs.boot_of_mainOp (by simp [accepted])
    | ssWrite =>
      obtain ⟨_, _, writing, -⟩ := effect
      exact hs.boot_of_mainOp (by simp [writing])
    | reset | boot | pinChange | tickEnter | tickCopy | tickClear | tickWd => cases main
    | _ => cases host

/-- An interrupt is taken only with `boot = RUN` (R90, R99); the other micro-steps have the tick handler running. -/
theorem State.Inv.boot_of_handlerStep {i : Instr} {s t : State} (hs : s.Inv) (handler : isHandlerStep i = true)
    (h : exec i s = .next t) : s.boot = .run := by
  have effect := effect_of_next h
  cases i with
  | pinChange => exact (canTake_pinChange_iff.1 effect.1).1
  | tickEnter => exact (canTake_tick_iff.1 effect.1).1
  | tickCopy =>
    obtain ⟨_, copying, -⟩ := effect
    exact hs.boot_of_tick (by simp [copying])
  | tickClear =>
    obtain ⟨_, clearing, -⟩ := effect
    exact hs.boot_of_tick (by simp [clearing])
  | tickWd => exact hs.boot_of_tick (by simp [effect.1])
  | _ => cases handler

/-- Settles O14: every other event is a step of MAIN or of a handler, and those need `boot = RUN`. -/
theorem onlyBootAndResetBeforeBoot : Obligations.OnlyBootAndResetBeforeBoot := by
  intro i s t hs stopped h
  by_contra other
  obtain ⟨no_reset, no_boot⟩ := not_or.1 other
  have run : s.boot = .run := by
    obtain main | handler := main_or_handler_step no_reset (not_exists.1 no_boot)
    · exact hs.boot_of_mainStep main h
    · exact hs.boot_of_handlerStep handler h
  cases stopped.symm.trans run

/-! ### Who writes the response buffer (R160) -/

theorem WritesTransferOnly.scratch_eq {s t : State} (h : WritesTransferOnly s t) : t.scratch = s.scratch := by
  obtain ⟨_, _, _, _, rfl⟩ := h
  rfl

theorem dataStage_writesTransferOnly (bytes : List Byte) (s : State) : WritesTransferOnly s (dataStage bytes s) := by
  obtain ⟨-, e⟩ | ⟨-, -, e⟩ | ⟨_, _, _, _, -, -, e⟩ := dataStage_cases s bytes <;> exact ⟨_, _, _, _, e⟩

/-- The GET_SPEED copy apart, MAIN keeps `scratch`. -/
theorem mainStep_scratch {i : Instr} {s t : State} (main : isMainStep i = true) (no_copy : i ≠ .gsCopy)
    (h : exec i s = .next t) : t.scratch = s.scratch := by
  have effect := effect_of_next h
  cases i with
  | setSpeed hd => exact effect.2 ▸ (setupResult_writesTransferOnly (.setSpeed hd) s).scratch_eq
  | getSpeed hd => exact effect.2 ▸ (setupResult_writesTransferOnly (.getSpeed hd) s).scratch_eq
  | getTacho hd => exact effect.2 ▸ (setupResult_writesTransferOnly (.getTacho hd) s).scratch_eq
  | setup p => exact effect.2 ▸ (setupResult_writesTransferOnly (decodeRequest p) s).scratch_eq
  | data bytes => exact effect.2 ▸ (dataStage_writesTransferOnly bytes s).scratch_eq
  | inRead => exact effect.2 ▸ (readResponse_writesTransferOnly s).scratch_eq
  | gsCopy => exact absurd rfl no_copy
  | ssReset =>
    obtain ⟨_, -, -, rfl⟩ := effect
    rfl
  | ssWrite =>
    obtain ⟨_, _, -, -, rfl⟩ := effect
    rfl
  | standard | vendorOther | classType | reservedType | busReset => exact effect.2 ▸ rfl
  | reset | boot | pinChange | tickEnter | tickCopy | tickClear | tickWd => cases main

/-- An event keeps `scratch`, or is the GET_SPEED copy (R117) or RESET (R150). -/
theorem scratch_kept_or_written {i : Instr} {s t : State} (h : exec i s = .next t) :
    t.scratch = s.scratch ∨ i = .reset ∨ i = .gsCopy := by
  by_cases reset : i = .reset
  · exact .inr (.inl reset)
  by_cases copy : i = .gsCopy
  · exact .inr (.inr copy)
  refine .inl ?_
  by_cases boot : ∃ lv0, i = .boot lv0
  · obtain ⟨lv0, rfl⟩ := boot
    obtain ⟨-, rfl⟩ := effect_of_next h
    rfl
  obtain main | handler := main_or_handler_step reset (not_exists.1 boot)
  · exact mainStep_scratch main copy h
  · rw [handlerStep_frame handler h]

/-- Settles O51: a copy would have its callback pending, which leaves no response designated (R41). -/
theorem copiedResponseDoesNotChange : Obligations.CopiedResponseDoesNotChange := by
  intro i s t len sent hs designated no_reset h
  obtain kept | reset | rfl := scratch_kept_or_written h
  · exact kept
  · exact absurd reset no_reset
  · obtain ⟨_, _, copying, -⟩ := effect_of_next h
    have no_response : s.ctl = .idle := hs.callback (by simp [copying])
    cases designated.symm.trans no_response

/-! ### The default stays without a host write (R157) -/

/-- Settles O53: every event but SSWRITE and RESET keeps the default in `duty`. -/
theorem defaultDutyWithoutHostWrites : Obligations.DefaultDutyWithoutHostWrites := by
  intro evs s t dflt no_write no_reset run
  have still : DefaultDuty t := runEvents_preserves (P := DefaultDuty)
    (fun i mem u v h held =>
      held.of_next (ne_of_mem_of_not_mem mem no_reset) (ne_of_mem_of_not_mem mem no_write) h)
    dflt run
  exact still.trans dflt.symm

end Sys2Proof.Machine
end
